-- ==== Sys2Proof/Word.lean ====
section
/-! DEFINITION. The two word types of the machine: a byte (one bus access) and a 16-bit word (an address, a register
pair, SP or PC). Rules R10 and R8 of `spec/00_scope.md`. The helpers on them stand in `Sys2Proof/Machine/Bits.lean`. -/

namespace Sys2Proof

/-- A byte, the unit of every bus access (R10, R74). `BitVec` arithmetic wraps modulo 2^8, as R10 says. -/
abbrev Byte := BitVec 8

/-- A 16-bit word: an address, a register pair, SP or PC (R10, R22). Arithmetic wraps modulo 2^16 (R73). -/
abbrev Word := BitVec 16

end Sys2Proof
end

