-- ==== Sys2Proof/Machine/Bits.lean ====
section
/-! DEFINITION. Byte order, extension and bit-field helpers, shared by the decoder and the machine (R10, R11, R21, R70). -/

namespace Sys2Proof

/-- `v[15:8]` (R10). -/
def hiByte (w : Word) : Byte := w.extractLsb' 8 8

/-- `v[7:0]` (R10). -/
def loByte (w : Word) : Byte := w.extractLsb' 0 8

/-- `{hi, lo}`: the concatenation of two bytes into a word, `hi` in bits 15:8 (R10). -/
def word16 (hi lo : Byte) : Word := hi ++ lo

/-- `sext_16` (R11): sign extension of a byte. -/
def sext16 (b : Byte) : Word := b.signExtend 16

/-- `zext_16` (R11): zero extension of a byte. -/
def zext16 (b : Byte) : Word := b.setWidth 16

/-- `v[3:0]` as a number, the operand of the half-carry tests (R149). -/
def lowNibble (b : Byte) : Nat := b.toNat % 16

/-- The byte `x` with bit `i` set to `v` and every other bit kept. -/
def putBit (i : Nat) (v : Bool) (x : Byte) : Byte :=
  if v then x ||| BitVec.twoPow 8 i else x &&& ~~~(BitVec.twoPow 8 i)

end Sys2Proof
end

