-- ==== Sys2Proof/Syntax.lean ====
section
/-! DEFINITION. The instructions: one constructor per row of `spec/opcode_table.json` (R104, R105, R111).

A constructor is named after its row's mnemonic: lower case, operands joined by `_`, an operand in parentheses written
`at…` (`ld_atHl_b` is `LD (HL),B`; `(HL+)` and `(HL-)` are `atHli` and `atHld`, R110). Its arguments are the immediate
bytes or word that follow the opcode (R91, R98): `d8`, `a8`, `e8` one byte, `d16`, `a16` a word, `pad` the byte after STOP
(R108), `cb` the byte after the prefix (R226).
The rows with operand bytes stand first, then the rest, each in the table's order. -/

namespace Sys2Proof

inductive Instr where
  | ld_bc_d16 (d16 : Word)  -- 01 LD BC,d16, R137
  | ld_b_d8 (d8 : Byte)  -- 06 LD B,d8, R123
  | ld_atA16_sp (a16 : Word)  -- 08 LD (a16),SP, R138
  | ld_c_d8 (d8 : Byte)  -- 0E LD C,d8, R123
  | stop (pad : Byte)  -- 10 STOP, R222
  | ld_de_d16 (d16 : Word)  -- 11 LD DE,d16, R137
  | ld_d_d8 (d8 : Byte)  -- 16 LD D,d8, R123
  | jr_e8 (e8 : Byte)  -- 18 JR e8, R204
  | ld_e_d8 (d8 : Byte)  -- 1E LD E,d8, R123
  | jr_nz_e8 (e8 : Byte)  -- 20 JR NZ,e8, R205
  | ld_hl_d16 (d16 : Word)  -- 21 LD HL,d16, R137
  | ld_h_d8 (d8 : Byte)  -- 26 LD H,d8, R123
  | jr_z_e8 (e8 : Byte)  -- 28 JR Z,e8, R205
  | ld_l_d8 (d8 : Byte)  -- 2E LD L,d8, R123
  | jr_nc_e8 (e8 : Byte)  -- 30 JR NC,e8, R205
  | ld_sp_d16 (d16 : Word)  -- 31 LD SP,d16, R137
  | ld_atHl_d8 (d8 : Byte)  -- 36 LD (HL),d8, R124
  | jr_c_e8 (e8 : Byte)  -- 38 JR C,e8, R205
  | ld_a_d8 (d8 : Byte)  -- 3E LD A,d8, R123
  | jp_nz_a16 (a16 : Word)  -- C2 JP NZ,a16, R202
  | jp_a16 (a16 : Word)  -- C3 JP a16, R201
  | call_nz_a16 (a16 : Word)  -- C4 CALL NZ,a16, R207
  | add_a_d8 (d8 : Byte)  -- C6 ADD A,d8, R150
  | jp_z_a16 (a16 : Word)  -- CA JP Z,a16, R202
  | prefix_cb (cb : Byte)  -- CB PREFIX CB, R226
  | call_z_a16 (a16 : Word)  -- CC CALL Z,a16, R207
  | call_a16 (a16 : Word)  -- CD CALL a16, R206
  | adc_a_d8 (d8 : Byte)  -- CE ADC A,d8, R151
  | jp_nc_a16 (a16 : Word)  -- D2 JP NC,a16, R202
  | call_nc_a16 (a16 : Word)  -- D4 CALL NC,a16, R207
  | sub_d8 (d8 : Byte)  -- D6 SUB d8, R152
  | jp_c_a16 (a16 : Word)  -- DA JP C,a16, R202
  | call_c_a16 (a16 : Word)  -- DC CALL C,a16, R207
  | sbc_a_d8 (d8 : Byte)  -- DE SBC A,d8, R153
  | ldh_atA8_a (a8 : Byte)  -- E0 LDH (a8),A, R134
  | and_d8 (d8 : Byte)  -- E6 AND d8, R154
  | add_sp_e8 (e8 : Byte)  -- E8 ADD SP,e8, R173
  | ld_atA16_a (a16 : Word)  -- EA LD (a16),A, R132
  | xor_d8 (d8 : Byte)  -- EE XOR d8, R155
  | ldh_a_atA8 (a8 : Byte)  -- F0 LDH A,(a8), R133
  | or_d8 (d8 : Byte)  -- F6 OR d8, R156
  | ld_hl_spE8 (e8 : Byte)  -- F8 LD HL,SP+e8, R174
  | ld_a_atA16 (a16 : Word)  -- FA LD A,(a16), R131
  | cp_d8 (d8 : Byte)  -- FE CP d8, R157
  | nop  -- 00 NOP, R220
  | ld_atBc_a  -- 02 LD (BC),A, R126
  | inc_bc  -- 03 INC BC, R170
  | inc_b  -- 04 INC B, R158
  | dec_b  -- 05 DEC B, R159
  | rlca  -- 07 RLCA, R180
  | add_hl_bc  -- 09 ADD HL,BC, R172
  | ld_a_atBc  -- 0A LD A,(BC), R125
  | dec_bc  -- 0B DEC BC, R171
  | inc_c  -- 0C INC C, R158
  | dec_c  -- 0D DEC C, R159
  | rrca  -- 0F RRCA, R181
  | ld_atDe_a  -- 12 LD (DE),A, R126
  | inc_de  -- 13 INC DE, R170
  | inc_d  -- 14 INC D, R158
  | dec_d  -- 15 DEC D, R159
  | rla  -- 17 RLA, R182
  | add_hl_de  -- 19 ADD HL,DE, R172
  | ld_a_atDe  -- 1A LD A,(DE), R125
  | dec_de  -- 1B DEC DE, R171
  | inc_e  -- 1C INC E, R158
  | dec_e  -- 1D DEC E, R159
  | rra  -- 1F RRA, R183
  | ld_atHli_a  -- 22 LD (HL+),A, R129
  | inc_hl  -- 23 INC HL, R170
  | inc_h  -- 24 INC H, R158
  | dec_h  -- 25 DEC H, R159
  | daa  -- 27 DAA, R160
  | add_hl_hl  -- 29 ADD HL,HL, R172
  | ld_a_atHli  -- 2A LD A,(HL+), R127
  | dec_hl  -- 2B DEC HL, R171
  | inc_l  -- 2C INC L, R158
  | dec_l  -- 2D DEC L, R159
  | cpl  -- 2F CPL, R161
  | ld_atHld_a  -- 32 LD (HL-),A, R130
  | inc_sp  -- 33 INC SP, R170
  | inc_atHl  -- 34 INC (HL), R158
  | dec_atHl  -- 35 DEC (HL), R159
  | scf  -- 37 SCF, R162
  | add_hl_sp  -- 39 ADD HL,SP, R172
  | ld_a_atHld  -- 3A LD A,(HL-), R128
  | dec_sp  -- 3B DEC SP, R171
  | inc_a  -- 3C INC A, R158
  | dec_a  -- 3D DEC A, R159
  | ccf  -- 3F CCF, R163
  | ld_b_b  -- 40 LD B,B, R120
  | ld_b_c  -- 41 LD B,C, R120
  | ld_b_d  -- 42 LD B,D, R120
  | ld_b_e  -- 43 LD B,E, R120
  | ld_b_h  -- 44 LD B,H, R120
  | ld_b_l  -- 45 LD B,L, R120
  | ld_b_atHl  -- 46 LD B,(HL), R121
  | ld_b_a  -- 47 LD B,A, R120
  | ld_c_b  -- 48 LD C,B, R120
  | ld_c_c  -- 49 LD C,C, R120
  | ld_c_d  -- 4A LD C,D, R120
  | ld_c_e  -- 4B LD C,E, R120
  | ld_c_h  -- 4C LD C,H, R120
  | ld_c_l  -- 4D LD C,L, R120
  | ld_c_atHl  -- 4E LD C,(HL), R121
  | ld_c_a  -- 4F LD C,A, R120
  | ld_d_b  -- 50 LD D,B, R120
  | ld_d_c  -- 51 LD D,C, R120
  | ld_d_d  -- 52 LD D,D, R120
  | ld_d_e  -- 53 LD D,E, R120
  | ld_d_h  -- 54 LD D,H, R120
  | ld_d_l  -- 55 LD D,L, R120
  | ld_d_atHl  -- 56 LD D,(HL), R121
  | ld_d_a  -- 57 LD D,A, R120
  | ld_e_b  -- 58 LD E,B, R120
  | ld_e_c  -- 59 LD E,C, R120
  | ld_e_d  -- 5A LD E,D, R120
  | ld_e_e  -- 5B LD E,E, R120
  | ld_e_h  -- 5C LD E,H, R120
  | ld_e_l  -- 5D LD E,L, R120
  | ld_e_atHl  -- 5E LD E,(HL), R121
  | ld_e_a  -- 5F LD E,A, R120
  | ld_h_b  -- 60 LD H,B, R120
  | ld_h_c  -- 61 LD H,C, R120
  | ld_h_d  -- 62 LD H,D, R120
  | ld_h_e  -- 63 LD H,E, R120
  | ld_h_h  -- 64 LD H,H, R120
  | ld_h_l  -- 65 LD H,L, R120
  | ld_h_atHl  -- 66 LD H,(HL), R121
  | ld_h_a  -- 67 LD H,A, R120
  | ld_l_b  -- 68 LD L,B, R120
  | ld_l_c  -- 69 LD L,C, R120
  | ld_l_d  -- 6A LD L,D, R120
  | ld_l_e  -- 6B LD L,E, R120
  | ld_l_h  -- 6C LD L,H, R120
  | ld_l_l  -- 6D LD L,L, R120
  | ld_l_atHl  -- 6E LD L,(HL), R121
  | ld_l_a  -- 6F LD L,A, R120
  | ld_atHl_b  -- 70 LD (HL),B, R122
  | ld_atHl_c  -- 71 LD (HL),C, R122
  | ld_atHl_d  -- 72 LD (HL),D, R122
  | ld_atHl_e  -- 73 LD (HL),E, R122
  | ld_atHl_h  -- 74 LD (HL),H, R122
  | ld_atHl_l  -- 75 LD (HL),L, R122
  | halt  -- 76 HALT, R221
  | ld_atHl_a  -- 77 LD (HL),A, R122
  | ld_a_b  -- 78 LD A,B, R120
  | ld_a_c  -- 79 LD A,C, R120
  | ld_a_d  -- 7A LD A,D, R120
  | ld_a_e  -- 7B LD A,E, R120
  | ld_a_h  -- 7C LD A,H, R120
  | ld_a_l  -- 7D LD A,L, R120
  | ld_a_atHl  -- 7E LD A,(HL), R121
  | ld_a_a  -- 7F LD A,A, R120
  | add_a_b  -- 80 ADD A,B, R150
  | add_a_c  -- 81 ADD A,C, R150
  | add_a_d  -- 82 ADD A,D, R150
  | add_a_e  -- 83 ADD A,E, R150
  | add_a_h  -- 84 ADD A,H, R150
  | add_a_l  -- 85 ADD A,L, R150
  | add_a_atHl  -- 86 ADD A,(HL), R150
  | add_a_a  -- 87 ADD A,A, R150
  | adc_a_b  -- 88 ADC A,B, R151
  | adc_a_c  -- 89 ADC A,C, R151
  | adc_a_d  -- 8A ADC A,D, R151
  | adc_a_e  -- 8B ADC A,E, R151
  | adc_a_h  -- 8C ADC A,H, R151
  | adc_a_l  -- 8D ADC A,L, R151
  | adc_a_atHl  -- 8E ADC A,(HL), R151
  | adc_a_a  -- 8F ADC A,A, R151
  | sub_b  -- 90 SUB B, R152
  | sub_c  -- 91 SUB C, R152
  | sub_d  -- 92 SUB D, R152
  | sub_e  -- 93 SUB E, R152
  | sub_h  -- 94 SUB H, R152
  | sub_l  -- 95 SUB L, R152
  | sub_atHl  -- 96 SUB (HL), R152
  | sub_a  -- 97 SUB A, R152
  | sbc_a_b  -- 98 SBC A,B, R153
  | sbc_a_c  -- 99 SBC A,C, R153
  | sbc_a_d  -- 9A SBC A,D, R153
  | sbc_a_e  -- 9B SBC A,E, R153
  | sbc_a_h  -- 9C SBC A,H, R153
  | sbc_a_l  -- 9D SBC A,L, R153
  | sbc_a_atHl  -- 9E SBC A,(HL), R153
  | sbc_a_a  -- 9F SBC A,A, R153
  | and_b  -- A0 AND B, R154
  | and_c  -- A1 AND C, R154
  | and_d  -- A2 AND D, R154
  | and_e  -- A3 AND E, R154
  | and_h  -- A4 AND H, R154
  | and_l  -- A5 AND L, R154
  | and_atHl  -- A6 AND (HL), R154
  | and_a  -- A7 AND A, R154
  | xor_b  -- A8 XOR B, R155
  | xor_c  -- A9 XOR C, R155
  | xor_d  -- AA XOR D, R155
  | xor_e  -- AB XOR E, R155
  | xor_h  -- AC XOR H, R155
  | xor_l  -- AD XOR L, R155
  | xor_atHl  -- AE XOR (HL), R155
  | xor_a  -- AF XOR A, R155
  | or_b  -- B0 OR B, R156
  | or_c  -- B1 OR C, R156
  | or_d  -- B2 OR D, R156
  | or_e  -- B3 OR E, R156
  | or_h  -- B4 OR H, R156
  | or_l  -- B5 OR L, R156
  | or_atHl  -- B6 OR (HL), R156
  | or_a  -- B7 OR A, R156
  | cp_b  -- B8 CP B, R157
  | cp_c  -- B9 CP C, R157
  | cp_d  -- BA CP D, R157
  | cp_e  -- BB CP E, R157
  | cp_h  -- BC CP H, R157
  | cp_l  -- BD CP L, R157
  | cp_atHl  -- BE CP (HL), R157
  | cp_a  -- BF CP A, R157
  | ret_nz  -- C0 RET NZ, R209
  | pop_bc  -- C1 POP BC, R143
  | push_bc  -- C5 PUSH BC, R142
  | rst_00  -- C7 RST 00H, R211
  | ret_z  -- C8 RET Z, R209
  | ret  -- C9 RET, R208
  | rst_08  -- CF RST 08H, R211
  | ret_nc  -- D0 RET NC, R209
  | pop_de  -- D1 POP DE, R143
  | undefined_d3  -- D3 UNDEFINED_D3, R225
  | push_de  -- D5 PUSH DE, R142
  | rst_10  -- D7 RST 10H, R211
  | ret_c  -- D8 RET C, R209
  | reti  -- D9 RETI, R210
  | undefined_db  -- DB UNDEFINED_DB, R225
  | undefined_dd  -- DD UNDEFINED_DD, R225
  | rst_18  -- DF RST 18H, R211
  | pop_hl  -- E1 POP HL, R143
  | ld_atC_a  -- E2 LD (C),A, R136
  | undefined_e3  -- E3 UNDEFINED_E3, R225
  | undefined_e4  -- E4 UNDEFINED_E4, R225
  | push_hl  -- E5 PUSH HL, R142
  | rst_20  -- E7 RST 20H, R211
  | jp_hl  -- E9 JP HL, R203
  | undefined_eb  -- EB UNDEFINED_EB, R225
  | undefined_ec  -- EC UNDEFINED_EC, R225
  | undefined_ed  -- ED UNDEFINED_ED, R225
  | rst_28  -- EF RST 28H, R211
  | pop_af  -- F1 POP AF, R143
  | ld_a_atC  -- F2 LD A,(C), R135
  | di  -- F3 DI, R223
  | undefined_f4  -- F4 UNDEFINED_F4, R225
  | push_af  -- F5 PUSH AF, R142
  | rst_30  -- F7 RST 30H, R211
  | ld_sp_hl  -- F9 LD SP,HL, R139
  | ei  -- FB EI, R224
  | undefined_fc  -- FC UNDEFINED_FC, R225
  | undefined_fd  -- FD UNDEFINED_FD, R225
  | rst_38  -- FF RST 38H, R211
  | rlc_b  -- CB 00 RLC B, R184
  | rlc_c  -- CB 01 RLC C, R184
  | rlc_d  -- CB 02 RLC D, R184
  | rlc_e  -- CB 03 RLC E, R184
  | rlc_h  -- CB 04 RLC H, R184
  | rlc_l  -- CB 05 RLC L, R184
  | rlc_atHl  -- CB 06 RLC (HL), R184
  | rlc_a  -- CB 07 RLC A, R184
  | rrc_b  -- CB 08 RRC B, R185
  | rrc_c  -- CB 09 RRC C, R185
  | rrc_d  -- CB 0A RRC D, R185
  | rrc_e  -- CB 0B RRC E, R185
  | rrc_h  -- CB 0C RRC H, R185
  | rrc_l  -- CB 0D RRC L, R185
  | rrc_atHl  -- CB 0E RRC (HL), R185
  | rrc_a  -- CB 0F RRC A, R185
  | rl_b  -- CB 10 RL B, R186
  | rl_c  -- CB 11 RL C, R186
  | rl_d  -- CB 12 RL D, R186
  | rl_e  -- CB 13 RL E, R186
  | rl_h  -- CB 14 RL H, R186
  | rl_l  -- CB 15 RL L, R186
  | rl_atHl  -- CB 16 RL (HL), R186
  | rl_a  -- CB 17 RL A, R186
  | rr_b  -- CB 18 RR B, R187
  | rr_c  -- CB 19 RR C, R187
  | rr_d  -- CB 1A RR D, R187
  | rr_e  -- CB 1B RR E, R187
  | rr_h  -- CB 1C RR H, R187
  | rr_l  -- CB 1D RR L, R187
  | rr_atHl  -- CB 1E RR (HL), R187
  | rr_a  -- CB 1F RR A, R187
  | sla_b  -- CB 20 SLA B, R188
  | sla_c  -- CB 21 SLA C, R188
  | sla_d  -- CB 22 SLA D, R188
  | sla_e  -- CB 23 SLA E, R188
  | sla_h  -- CB 24 SLA H, R188
  | sla_l  -- CB 25 SLA L, R188
  | sla_atHl  -- CB 26 SLA (HL), R188
  | sla_a  -- CB 27 SLA A, R188
  | sra_b  -- CB 28 SRA B, R189
  | sra_c  -- CB 29 SRA C, R189
  | sra_d  -- CB 2A SRA D, R189
  | sra_e  -- CB 2B SRA E, R189
  | sra_h  -- CB 2C SRA H, R189
  | sra_l  -- CB 2D SRA L, R189
  | sra_atHl  -- CB 2E SRA (HL), R189
  | sra_a  -- CB 2F SRA A, R189
  | swap_b  -- CB 30 SWAP B, R191
  | swap_c  -- CB 31 SWAP C, R191
  | swap_d  -- CB 32 SWAP D, R191
  | swap_e  -- CB 33 SWAP E, R191
  | swap_h  -- CB 34 SWAP H, R191
  | swap_l  -- CB 35 SWAP L, R191
  | swap_atHl  -- CB 36 SWAP (HL), R191
  | swap_a  -- CB 37 SWAP A, R191
  | srl_b  -- CB 38 SRL B, R190
  | srl_c  -- CB 39 SRL C, R190
  | srl_d  -- CB 3A SRL D, R190
  | srl_e  -- CB 3B SRL E, R190
  | srl_h  -- CB 3C SRL H, R190
  | srl_l  -- CB 3D SRL L, R190
  | srl_atHl  -- CB 3E SRL (HL), R190
  | srl_a  -- CB 3F SRL A, R190
  | bit_0_b  -- CB 40 BIT 0,B, R192
  | bit_0_c  -- CB 41 BIT 0,C, R192
  | bit_0_d  -- CB 42 BIT 0,D, R192
  | bit_0_e  -- CB 43 BIT 0,E, R192
  | bit_0_h  -- CB 44 BIT 0,H, R192
  | bit_0_l  -- CB 45 BIT 0,L, R192
  | bit_0_atHl  -- CB 46 BIT 0,(HL), R192
  | bit_0_a  -- CB 47 BIT 0,A, R192
  | bit_1_b  -- CB 48 BIT 1,B, R192
  | bit_1_c  -- CB 49 BIT 1,C, R192
  | bit_1_d  -- CB 4A BIT 1,D, R192
  | bit_1_e  -- CB 4B BIT 1,E, R192
  | bit_1_h  -- CB 4C BIT 1,H, R192
  | bit_1_l  -- CB 4D BIT 1,L, R192
  | bit_1_atHl  -- CB 4E BIT 1,(HL), R192
  | bit_1_a  -- CB 4F BIT 1,A, R192
  | bit_2_b  -- CB 50 BIT 2,B, R192
  | bit_2_c  -- CB 51 BIT 2,C, R192
  | bit_2_d  -- CB 52 BIT 2,D, R192
  | bit_2_e  -- CB 53 BIT 2,E, R192
  | bit_2_h  -- CB 54 BIT 2,H, R192
  | bit_2_l  -- CB 55 BIT 2,L, R192
  | bit_2_atHl  -- CB 56 BIT 2,(HL), R192
  | bit_2_a  -- CB 57 BIT 2,A, R192
  | bit_3_b  -- CB 58 BIT 3,B, R192
  | bit_3_c  -- CB 59 BIT 3,C, R192
  | bit_3_d  -- CB 5A BIT 3,D, R192
  | bit_3_e  -- CB 5B BIT 3,E, R192
  | bit_3_h  -- CB 5C BIT 3,H, R192
  | bit_3_l  -- CB 5D BIT 3,L, R192
  | bit_3_atHl  -- CB 5E BIT 3,(HL), R192
  | bit_3_a  -- CB 5F BIT 3,A, R192
  | bit_4_b  -- CB 60 BIT 4,B, R192
  | bit_4_c  -- CB 61 BIT 4,C, R192
  | bit_4_d  -- CB 62 BIT 4,D, R192
  | bit_4_e  -- CB 63 BIT 4,E, R192
  | bit_4_h  -- CB 64 BIT 4,H, R192
  | bit_4_l  -- CB 65 BIT 4,L, R192
  | bit_4_atHl  -- CB 66 BIT 4,(HL), R192
  | bit_4_a  -- CB 67 BIT 4,A, R192
  | bit_5_b  -- CB 68 BIT 5,B, R192
  | bit_5_c  -- CB 69 BIT 5,C, R192
  | bit_5_d  -- CB 6A BIT 5,D, R192
  | bit_5_e  -- CB 6B BIT 5,E, R192
  | bit_5_h  -- CB 6C BIT 5,H, R192
  | bit_5_l  -- CB 6D BIT 5,L, R192
  | bit_5_atHl  -- CB 6E BIT 5,(HL), R192
  | bit_5_a  -- CB 6F BIT 5,A, R192
  | bit_6_b  -- CB 70 BIT 6,B, R192
  | bit_6_c  -- CB 71 BIT 6,C, R192
  | bit_6_d  -- CB 72 BIT 6,D, R192
  | bit_6_e  -- CB 73 BIT 6,E, R192
  | bit_6_h  -- CB 74 BIT 6,H, R192
  | bit_6_l  -- CB 75 BIT 6,L, R192
  | bit_6_atHl  -- CB 76 BIT 6,(HL), R192
  | bit_6_a  -- CB 77 BIT 6,A, R192
  | bit_7_b  -- CB 78 BIT 7,B, R192
  | bit_7_c  -- CB 79 BIT 7,C, R192
  | bit_7_d  -- CB 7A BIT 7,D, R192
  | bit_7_e  -- CB 7B BIT 7,E, R192
  | bit_7_h  -- CB 7C BIT 7,H, R192
  | bit_7_l  -- CB 7D BIT 7,L, R192
  | bit_7_atHl  -- CB 7E BIT 7,(HL), R192
  | bit_7_a  -- CB 7F BIT 7,A, R192
  | res_0_b  -- CB 80 RES 0,B, R193
  | res_0_c  -- CB 81 RES 0,C, R193
  | res_0_d  -- CB 82 RES 0,D, R193
  | res_0_e  -- CB 83 RES 0,E, R193
  | res_0_h  -- CB 84 RES 0,H, R193
  | res_0_l  -- CB 85 RES 0,L, R193
  | res_0_atHl  -- CB 86 RES 0,(HL), R193
  | res_0_a  -- CB 87 RES 0,A, R193
  | res_1_b  -- CB 88 RES 1,B, R193
  | res_1_c  -- CB 89 RES 1,C, R193
  | res_1_d  -- CB 8A RES 1,D, R193
  | res_1_e  -- CB 8B RES 1,E, R193
  | res_1_h  -- CB 8C RES 1,H, R193
  | res_1_l  -- CB 8D RES 1,L, R193
  | res_1_atHl  -- CB 8E RES 1,(HL), R193
  | res_1_a  -- CB 8F RES 1,A, R193
  | res_2_b  -- CB 90 RES 2,B, R193
  | res_2_c  -- CB 91 RES 2,C, R193
  | res_2_d  -- CB 92 RES 2,D, R193
  | res_2_e  -- CB 93 RES 2,E, R193
  | res_2_h  -- CB 94 RES 2,H, R193
  | res_2_l  -- CB 95 RES 2,L, R193
  | res_2_atHl  -- CB 96 RES 2,(HL), R193
  | res_2_a  -- CB 97 RES 2,A, R193
  | res_3_b  -- CB 98 RES 3,B, R193
  | res_3_c  -- CB 99 RES 3,C, R193
  | res_3_d  -- CB 9A RES 3,D, R193
  | res_3_e  -- CB 9B RES 3,E, R193
  | res_3_h  -- CB 9C RES 3,H, R193
  | res_3_l  -- CB 9D RES 3,L, R193
  | res_3_atHl  -- CB 9E RES 3,(HL), R193
  | res_3_a  -- CB 9F RES 3,A, R193
  | res_4_b  -- CB A0 RES 4,B, R193
  | res_4_c  -- CB A1 RES 4,C, R193
  | res_4_d  -- CB A2 RES 4,D, R193
  | res_4_e  -- CB A3 RES 4,E, R193
  | res_4_h  -- CB A4 RES 4,H, R193
  | res_4_l  -- CB A5 RES 4,L, R193
  | res_4_atHl  -- CB A6 RES 4,(HL), R193
  | res_4_a  -- CB A7 RES 4,A, R193
  | res_5_b  -- CB A8 RES 5,B, R193
  | res_5_c  -- CB A9 RES 5,C, R193
  | res_5_d  -- CB AA RES 5,D, R193
  | res_5_e  -- CB AB RES 5,E, R193
  | res_5_h  -- CB AC RES 5,H, R193
  | res_5_l  -- CB AD RES 5,L, R193
  | res_5_atHl  -- CB AE RES 5,(HL), R193
  | res_5_a  -- CB AF RES 5,A, R193
  | res_6_b  -- CB B0 RES 6,B, R193
  | res_6_c  -- CB B1 RES 6,C, R193
  | res_6_d  -- CB B2 RES 6,D, R193
  | res_6_e  -- CB B3 RES 6,E, R193
  | res_6_h  -- CB B4 RES 6,H, R193
  | res_6_l  -- CB B5 RES 6,L, R193
  | res_6_atHl  -- CB B6 RES 6,(HL), R193
  | res_6_a  -- CB B7 RES 6,A, R193
  | res_7_b  -- CB B8 RES 7,B, R193
  | res_7_c  -- CB B9 RES 7,C, R193
  | res_7_d  -- CB BA RES 7,D, R193
  | res_7_e  -- CB BB RES 7,E, R193
  | res_7_h  -- CB BC RES 7,H, R193
  | res_7_l  -- CB BD RES 7,L, R193
  | res_7_atHl  -- CB BE RES 7,(HL), R193
  | res_7_a  -- CB BF RES 7,A, R193
  | set_0_b  -- CB C0 SET 0,B, R194
  | set_0_c  -- CB C1 SET 0,C, R194
  | set_0_d  -- CB C2 SET 0,D, R194
  | set_0_e  -- CB C3 SET 0,E, R194
  | set_0_h  -- CB C4 SET 0,H, R194
  | set_0_l  -- CB C5 SET 0,L, R194
  | set_0_atHl  -- CB C6 SET 0,(HL), R194
  | set_0_a  -- CB C7 SET 0,A, R194
  | set_1_b  -- CB C8 SET 1,B, R194
  | set_1_c  -- CB C9 SET 1,C, R194
  | set_1_d  -- CB CA SET 1,D, R194
  | set_1_e  -- CB CB SET 1,E, R194
  | set_1_h  -- CB CC SET 1,H, R194
  | set_1_l  -- CB CD SET 1,L, R194
  | set_1_atHl  -- CB CE SET 1,(HL), R194
  | set_1_a  -- CB CF SET 1,A, R194
  | set_2_b  -- CB D0 SET 2,B, R194
  | set_2_c  -- CB D1 SET 2,C, R194
  | set_2_d  -- CB D2 SET 2,D, R194
  | set_2_e  -- CB D3 SET 2,E, R194
  | set_2_h  -- CB D4 SET 2,H, R194
  | set_2_l  -- CB D5 SET 2,L, R194
  | set_2_atHl  -- CB D6 SET 2,(HL), R194
  | set_2_a  -- CB D7 SET 2,A, R194
  | set_3_b  -- CB D8 SET 3,B, R194
  | set_3_c  -- CB D9 SET 3,C, R194
  | set_3_d  -- CB DA SET 3,D, R194
  | set_3_e  -- CB DB SET 3,E, R194
  | set_3_h  -- CB DC SET 3,H, R194
  | set_3_l  -- CB DD SET 3,L, R194
  | set_3_atHl  -- CB DE SET 3,(HL), R194
  | set_3_a  -- CB DF SET 3,A, R194
  | set_4_b  -- CB E0 SET 4,B, R194
  | set_4_c  -- CB E1 SET 4,C, R194
  | set_4_d  -- CB E2 SET 4,D, R194
  | set_4_e  -- CB E3 SET 4,E, R194
  | set_4_h  -- CB E4 SET 4,H, R194
  | set_4_l  -- CB E5 SET 4,L, R194
  | set_4_atHl  -- CB E6 SET 4,(HL), R194
  | set_4_a  -- CB E7 SET 4,A, R194
  | set_5_b  -- CB E8 SET 5,B, R194
  | set_5_c  -- CB E9 SET 5,C, R194
  | set_5_d  -- CB EA SET 5,D, R194
  | set_5_e  -- CB EB SET 5,E, R194
  | set_5_h  -- CB EC SET 5,H, R194
  | set_5_l  -- CB ED SET 5,L, R194
  | set_5_atHl  -- CB EE SET 5,(HL), R194
  | set_5_a  -- CB EF SET 5,A, R194
  | set_6_b  -- CB F0 SET 6,B, R194
  | set_6_c  -- CB F1 SET 6,C, R194
  | set_6_d  -- CB F2 SET 6,D, R194
  | set_6_e  -- CB F3 SET 6,E, R194
  | set_6_h  -- CB F4 SET 6,H, R194
  | set_6_l  -- CB F5 SET 6,L, R194
  | set_6_atHl  -- CB F6 SET 6,(HL), R194
  | set_6_a  -- CB F7 SET 6,A, R194
  | set_7_b  -- CB F8 SET 7,B, R194
  | set_7_c  -- CB F9 SET 7,C, R194
  | set_7_d  -- CB FA SET 7,D, R194
  | set_7_e  -- CB FB SET 7,E, R194
  | set_7_h  -- CB FC SET 7,H, R194
  | set_7_l  -- CB FD SET 7,L, R194
  | set_7_atHl  -- CB FE SET 7,(HL), R194
  | set_7_a  -- CB FF SET 7,A, R194
deriving DecidableEq, Repr

end Sys2Proof
end

