-- ==== Sys2Proof/WellFormed.lean ====
section
/-! DEFINITION. Which terms of `Instr` are whole instructions.

Every operand's width is the width of its type, and every value of it is an instruction (R107: no reserved space), so one
check is left: the row `PREFIX_CB` is an escape, not an instruction. "the prefix and its CB byte form one instruction and
one step" (R226), and that instruction is the row of the CB page that the second byte selects (R96, R109). So `prefix_cb cb`
is ill-formed: it has a meaning (R226), but no bytes decode to it (log entry 5). -/

namespace Sys2Proof

/-- The term is a whole instruction. -/
def Instr.wellFormed (i : Instr) : Bool :=
  match i with
  | .prefix_cb _ => false
  | _ => true

/-- `Instr.wellFormed` as a proposition. -/
abbrev WellFormed (i : Instr) : Prop := i.wellFormed = true

end Sys2Proof
end

