-- ==== Sys2Proof/Decode.lean ====
section
/-! DEFINITION. The decoder and the encoder (`spec/30_encoding.md`), and the reading of a word as the opcode table numbers
its bits.

The decoder is total: three bytes always give an instruction (`decodeBytes`), since every opcode byte is defined or one of
the eleven undefined rows (R106, R107). Reading a byte list can fail only because the list ends inside the instruction
(`DecodeError`). The rows of the two opcode maps R104 and R105 are the functions `baseRow0` to `baseRowF` and `cbRow0` to
`cbRowF`, by the high half of the byte; within a row, by the low half. -/

namespace Sys2Proof

/-! ## Lengths (R90, R104) -/

/-- The opcodes of two-byte instructions, the CB escape and STOP among them (R90, R91, R108). -/
def twoByteOpcodes : List Nat :=
  [0x06, 0x0E, 0x10, 0x16, 0x18, 0x1E, 0x20, 0x26, 0x28, 0x2E, 0x30, 0x36, 0x38, 0x3E, 0xC6, 0xCB, 0xCE,
    0xD6, 0xDE, 0xE0, 0xE6, 0xE8, 0xEE, 0xF0, 0xF6, 0xF8, 0xFE]

/-- The opcodes of three-byte instructions (R90, R91). -/
def threeByteOpcodes : List Nat :=
  [0x01, 0x08, 0x11, 0x21, 0x31, 0xC2, 0xC3, 0xC4, 0xCA, 0xCC, 0xCD, 0xD2, 0xD4, 0xDA, 0xDC, 0xEA, 0xFA]

/-- `ILLEGAL` (R106): the eleven undefined opcodes. -/
def illegalOpcodes : List Nat :=
  [0xD3, 0xDB, 0xDD, 0xE3, 0xE4, 0xEB, 0xEC, 0xED, 0xF4, 0xFC, 0xFD]

/-- The opcode is one of the eleven undefined ones (R106). -/
def isIllegal (op : Byte) : Bool := illegalOpcodes.contains op.toNat

/-- The length of an instruction, fixed by its first byte (R90, R109). -/
def opLength (op : Byte) : Nat :=
  if threeByteOpcodes.contains op.toNat then 3 else if twoByteOpcodes.contains op.toNat then 2 else 1

/-! ## The CB page (R96, R105) -/

/-- Row 0x of the CB map (R105). -/
def cbRow0 (lo : Nat) : Instr :=
  match lo with
  | 0 => .rlc_b
  | 1 => .rlc_c
  | 2 => .rlc_d
  | 3 => .rlc_e
  | 4 => .rlc_h
  | 5 => .rlc_l
  | 6 => .rlc_atHl
  | 7 => .rlc_a
  | 8 => .rrc_b
  | 9 => .rrc_c
  | 10 => .rrc_d
  | 11 => .rrc_e
  | 12 => .rrc_h
  | 13 => .rrc_l
  | 14 => .rrc_atHl
  | _ => .rrc_a

/-- Row 1x of the CB map (R105). -/
def cbRow1 (lo : Nat) : Instr :=
  match lo with
  | 0 => .rl_b
  | 1 => .rl_c
  | 2 => .rl_d
  | 3 => .rl_e
  | 4 => .rl_h
  | 5 => .rl_l
  | 6 => .rl_atHl
  | 7 => .rl_a
  | 8 => .rr_b
  | 9 => .rr_c
  | 10 => .rr_d
  | 11 => .rr_e
  | 12 => .rr_h
  | 13 => .rr_l
  | 14 => .rr_atHl
  | _ => .rr_a

/-- Row 2x of the CB map (R105). -/
def cbRow2 (lo : Nat) : Instr :=
  match lo with
  | 0 => .sla_b
  | 1 => .sla_c
  | 2 => .sla_d
  | 3 => .sla_e
  | 4 => .sla_h
  | 5 => .sla_l
  | 6 => .sla_atHl
  | 7 => .sla_a
  | 8 => .sra_b
  | 9 => .sra_c
  | 10 => .sra_d
  | 11 => .sra_e
  | 12 => .sra_h
  | 13 => .sra_l
  | 14 => .sra_atHl
  | _ => .sra_a

/-- Row 3x of the CB map (R105). -/
def cbRow3 (lo : Nat) : Instr :=
  match lo with
  | 0 => .swap_b
  | 1 => .swap_c
  | 2 => .swap_d
  | 3 => .swap_e
  | 4 => .swap_h
  | 5 => .swap_l
  | 6 => .swap_atHl
  | 7 => .swap_a
  | 8 => .srl_b
  | 9 => .srl_c
  | 10 => .srl_d
  | 11 => .srl_e
  | 12 => .srl_h
  | 13 => .srl_l
  | 14 => .srl_atHl
  | _ => .srl_a

/-- Row 4x of the CB map (R105). -/
def cbRow4 (lo : Nat) : Instr :=
  match lo with
  | 0 => .bit_0_b
  | 1 => .bit_0_c
  | 2 => .bit_0_d
  | 3 => .bit_0_e
  | 4 => .bit_0_h
  | 5 => .bit_0_l
  | 6 => .bit_0_atHl
  | 7 => .bit_0_a
  | 8 => .bit_1_b
  | 9 => .bit_1_c
  | 10 => .bit_1_d
  | 11 => .bit_1_e
  | 12 => .bit_1_h
  | 13 => .bit_1_l
  | 14 => .bit_1_atHl
  | _ => .bit_1_a

/-- Row 5x of the CB map (R105). -/
def cbRow5 (lo : Nat) : Instr :=
  match lo with
  | 0 => .bit_2_b
  | 1 => .bit_2_c
  | 2 => .bit_2_d
  | 3 => .bit_2_e
  | 4 => .bit_2_h
  | 5 => .bit_2_l
  | 6 => .bit_2_atHl
  | 7 => .bit_2_a
  | 8 => .bit_3_b
  | 9 => .bit_3_c
  | 10 => .bit_3_d
  | 11 => .bit_3_e
  | 12 => .bit_3_h
  | 13 => .bit_3_l
  | 14 => .bit_3_atHl
  | _ => .bit_3_a

/-- Row 6x of the CB map (R105). -/
def cbRow6 (lo : Nat) : Instr :=
  match lo with
  | 0 => .bit_4_b
  | 1 => .bit_4_c
  | 2 => .bit_4_d
  | 3 => .bit_4_e
  | 4 => .bit_4_h
  | 5 => .bit_4_l
  | 6 => .bit_4_atHl
  | 7 => .bit_4_a
  | 8 => .bit_5_b
  | 9 => .bit_5_c
  | 10 => .bit_5_d
  | 11 => .bit_5_e
  | 12 => .bit_5_h
  | 13 => .bit_5_l
  | 14 => .bit_5_atHl
  | _ => .bit_5_a

/-- Row 7x of the CB map (R105). -/
def cbRow7 (lo : Nat) : Instr :=
  match lo with
  | 0 => .bit_6_b
  | 1 => .bit_6_c
  | 2 => .bit_6_d
  | 3 => .bit_6_e
  | 4 => .bit_6_h
  | 5 => .bit_6_l
  | 6 => .bit_6_atHl
  | 7 => .bit_6_a
  | 8 => .bit_7_b
  | 9 => .bit_7_c
  | 10 => .bit_7_d
  | 11 => .bit_7_e
  | 12 => .bit_7_h
  | 13 => .bit_7_l
  | 14 => .bit_7_atHl
  | _ => .bit_7_a

/-- Row 8x of the CB map (R105). -/
def cbRow8 (lo : Nat) : Instr :=
  match lo with
  | 0 => .res_0_b
  | 1 => .res_0_c
  | 2 => .res_0_d
  | 3 => .res_0_e
  | 4 => .res_0_h
  | 5 => .res_0_l
  | 6 => .res_0_atHl
  | 7 => .res_0_a
  | 8 => .res_1_b
  | 9 => .res_1_c
  | 10 => .res_1_d
  | 11 => .res_1_e
  | 12 => .res_1_h
  | 13 => .res_1_l
  | 14 => .res_1_atHl
  | _ => .res_1_a

/-- Row 9x of the CB map (R105). -/
def cbRow9 (lo : Nat) : Instr :=
  match lo with
  | 0 => .res_2_b
  | 1 => .res_2_c
  | 2 => .res_2_d
  | 3 => .res_2_e
  | 4 => .res_2_h
  | 5 => .res_2_l
  | 6 => .res_2_atHl
  | 7 => .res_2_a
  | 8 => .res_3_b
  | 9 => .res_3_c
  | 10 => .res_3_d
  | 11 => .res_3_e
  | 12 => .res_3_h
  | 13 => .res_3_l
  | 14 => .res_3_atHl
  | _ => .res_3_a

/-- Row Ax of the CB map (R105). -/
def cbRowA (lo : Nat) : Instr :=
  match lo with
  | 0 => .res_4_b
  | 1 => .res_4_c
  | 2 => .res_4_d
  | 3 => .res_4_e
  | 4 => .res_4_h
  | 5 => .res_4_l
  | 6 => .res_4_atHl
  | 7 => .res_4_a
  | 8 => .res_5_b
  | 9 => .res_5_c
  | 10 => .res_5_d
  | 11 => .res_5_e
  | 12 => .res_5_h
  | 13 => .res_5_l
  | 14 => .res_5_atHl
  | _ => .res_5_a

/-- Row Bx of the CB map (R105). -/
def cbRowB (lo : Nat) : Instr :=
  match lo with
  | 0 => .res_6_b
  | 1 => .res_6_c
  | 2 => .res_6_d
  | 3 => .res_6_e
  | 4 => .res_6_h
  | 5 => .res_6_l
  | 6 => .res_6_atHl
  | 7 => .res_6_a
  | 8 => .res_7_b
  | 9 => .res_7_c
  | 10 => .res_7_d
  | 11 => .res_7_e
  | 12 => .res_7_h
  | 13 => .res_7_l
  | 14 => .res_7_atHl
  | _ => .res_7_a

/-- Row Cx of the CB map (R105). -/
def cbRowC (lo : Nat) : Instr :=
  match lo with
  | 0 => .set_0_b
  | 1 => .set_0_c
  | 2 => .set_0_d
  | 3 => .set_0_e
  | 4 => .set_0_h
  | 5 => .set_0_l
  | 6 => .set_0_atHl
  | 7 => .set_0_a
  | 8 => .set_1_b
  | 9 => .set_1_c
  | 10 => .set_1_d
  | 11 => .set_1_e
  | 12 => .set_1_h
  | 13 => .set_1_l
  | 14 => .set_1_atHl
  | _ => .set_1_a

/-- Row Dx of the CB map (R105). -/
def cbRowD (lo : Nat) : Instr :=
  match lo with
  | 0 => .set_2_b
  | 1 => .set_2_c
  | 2 => .set_2_d
  | 3 => .set_2_e
  | 4 => .set_2_h
  | 5 => .set_2_l
  | 6 => .set_2_atHl
  | 7 => .set_2_a
  | 8 => .set_3_b
  | 9 => .set_3_c
  | 10 => .set_3_d
  | 11 => .set_3_e
  | 12 => .set_3_h
  | 13 => .set_3_l
  | 14 => .set_3_atHl
  | _ => .set_3_a

/-- Row Ex of the CB map (R105). -/
def cbRowE (lo : Nat) : Instr :=
  match lo with
  | 0 => .set_4_b
  | 1 => .set_4_c
  | 2 => .set_4_d
  | 3 => .set_4_e
  | 4 => .set_4_h
  | 5 => .set_4_l
  | 6 => .set_4_atHl
  | 7 => .set_4_a
  | 8 => .set_5_b
  | 9 => .set_5_c
  | 10 => .set_5_d
  | 11 => .set_5_e
  | 12 => .set_5_h
  | 13 => .set_5_l
  | 14 => .set_5_atHl
  | _ => .set_5_a

/-- Row Fx of the CB map (R105). -/
def cbRowF (lo : Nat) : Instr :=
  match lo with
  | 0 => .set_6_b
  | 1 => .set_6_c
  | 2 => .set_6_d
  | 3 => .set_6_e
  | 4 => .set_6_h
  | 5 => .set_6_l
  | 6 => .set_6_atHl
  | 7 => .set_6_a
  | 8 => .set_7_b
  | 9 => .set_7_c
  | 10 => .set_7_d
  | 11 => .set_7_e
  | 12 => .set_7_h
  | 13 => .set_7_l
  | 14 => .set_7_atHl
  | _ => .set_7_a

/-- The instruction of a CB byte (R96, R105): all 256 are defined. -/
def decodeCb (cb : Byte) : Instr :=
  let lo := cb.toNat % 16
  match cb.toNat / 16 with
  | 0 => cbRow0 lo
  | 1 => cbRow1 lo
  | 2 => cbRow2 lo
  | 3 => cbRow3 lo
  | 4 => cbRow4 lo
  | 5 => cbRow5 lo
  | 6 => cbRow6 lo
  | 7 => cbRow7 lo
  | 8 => cbRow8 lo
  | 9 => cbRow9 lo
  | 10 => cbRowA lo
  | 11 => cbRowB lo
  | 12 => cbRowC lo
  | 13 => cbRowD lo
  | 14 => cbRowE lo
  | _ => cbRowF lo

/-! ## The base page (R100 to R104) -/

/-- Row 0x of the base map (R104). -/
def baseRow0 (lo : Nat) (b1 b2 : Byte) : Instr :=
  match lo with
  | 0 => .nop
  | 1 => .ld_bc_d16 (word16 b2 b1)
  | 2 => .ld_atBc_a
  | 3 => .inc_bc
  | 4 => .inc_b
  | 5 => .dec_b
  | 6 => .ld_b_d8 b1
  | 7 => .rlca
  | 8 => .ld_atA16_sp (word16 b2 b1)
  | 9 => .add_hl_bc
  | 10 => .ld_a_atBc
  | 11 => .dec_bc
  | 12 => .inc_c
  | 13 => .dec_c
  | 14 => .ld_c_d8 b1
  | _ => .rrca

/-- Row 1x of the base map (R104). -/
def baseRow1 (lo : Nat) (b1 b2 : Byte) : Instr :=
  match lo with
  | 0 => .stop b1
  | 1 => .ld_de_d16 (word16 b2 b1)
  | 2 => .ld_atDe_a
  | 3 => .inc_de
  | 4 => .inc_d
  | 5 => .dec_d
  | 6 => .ld_d_d8 b1
  | 7 => .rla
  | 8 => .jr_e8 b1
  | 9 => .add_hl_de
  | 10 => .ld_a_atDe
  | 11 => .dec_de
  | 12 => .inc_e
  | 13 => .dec_e
  | 14 => .ld_e_d8 b1
  | _ => .rra

/-- Row 2x of the base map (R104). -/
def baseRow2 (lo : Nat) (b1 b2 : Byte) : Instr :=
  match lo with
  | 0 => .jr_nz_e8 b1
  | 1 => .ld_hl_d16 (word16 b2 b1)
  | 2 => .ld_atHli_a
  | 3 => .inc_hl
  | 4 => .inc_h
  | 5 => .dec_h
  | 6 => .ld_h_d8 b1
  | 7 => .daa
  | 8 => .jr_z_e8 b1
  | 9 => .add_hl_hl
  | 10 => .ld_a_atHli
  | 11 => .dec_hl
  | 12 => .inc_l
  | 13 => .dec_l
  | 14 => .ld_l_d8 b1
  | _ => .cpl

/-- Row 3x of the base map (R104). -/
def baseRow3 (lo : Nat) (b1 b2 : Byte) : Instr :=
  match lo with
  | 0 => .jr_nc_e8 b1
  | 1 => .ld_sp_d16 (word16 b2 b1)
  | 2 => .ld_atHld_a
  | 3 => .inc_sp
  | 4 => .inc_atHl
  | 5 => .dec_atHl
  | 6 => .ld_atHl_d8 b1
  | 7 => .scf
  | 8 => .jr_c_e8 b1
  | 9 => .add_hl_sp
  | 10 => .ld_a_atHld
  | 11 => .dec_sp
  | 12 => .inc_a
  | 13 => .dec_a
  | 14 => .ld_a_d8 b1
  | _ => .ccf

/-- Row 4x of the base map (R104). -/
def baseRow4 (lo : Nat) : Instr :=
  match lo with
  | 0 => .ld_b_b
  | 1 => .ld_b_c
  | 2 => .ld_b_d
  | 3 => .ld_b_e
  | 4 => .ld_b_h
  | 5 => .ld_b_l
  | 6 => .ld_b_atHl
  | 7 => .ld_b_a
  | 8 => .ld_c_b
  | 9 => .ld_c_c
  | 10 => .ld_c_d
  | 11 => .ld_c_e
  | 12 => .ld_c_h
  | 13 => .ld_c_l
  | 14 => .ld_c_atHl
  | _ => .ld_c_a

/-- Row 5x of the base map (R104). -/
def baseRow5 (lo : Nat) : Instr :=
  match lo with
  | 0 => .ld_d_b
  | 1 => .ld_d_c
  | 2 => .ld_d_d
  | 3 => .ld_d_e
  | 4 => .ld_d_h
  | 5 => .ld_d_l
  | 6 => .ld_d_atHl
  | 7 => .ld_d_a
  | 8 => .ld_e_b
  | 9 => .ld_e_c
  | 10 => .ld_e_d
  | 11 => .ld_e_e
  | 12 => .ld_e_h
  | 13 => .ld_e_l
  | 14 => .ld_e_atHl
  | _ => .ld_e_a

/-- Row 6x of the base map (R104). -/
def baseRow6 (lo : Nat) : Instr :=
  match lo with
  | 0 => .ld_h_b
  | 1 => .ld_h_c
  | 2 => .ld_h_d
  | 3 => .ld_h_e
  | 4 => .ld_h_h
  | 5 => .ld_h_l
  | 6 => .ld_h_atHl
  | 7 => .ld_h_a
  | 8 => .ld_l_b
  | 9 => .ld_l_c
  | 10 => .ld_l_d
  | 11 => .ld_l_e
  | 12 => .ld_l_h
  | 13 => .ld_l_l
  | 14 => .ld_l_atHl
  | _ => .ld_l_a

/-- Row 7x of the base map (R104). -/
def baseRow7 (lo : Nat) : Instr :=
  match lo with
  | 0 => .ld_atHl_b
  | 1 => .ld_atHl_c
  | 2 => .ld_atHl_d
  | 3 => .ld_atHl_e
  | 4 => .ld_atHl_h
  | 5 => .ld_atHl_l
  | 6 => .halt
  | 7 => .ld_atHl_a
  | 8 => .ld_a_b
  | 9 => .ld_a_c
  | 10 => .ld_a_d
  | 11 => .ld_a_e
  | 12 => .ld_a_h
  | 13 => .ld_a_l
  | 14 => .ld_a_atHl
  | _ => .ld_a_a

/-- Row 8x of the base map (R104). -/
def baseRow8 (lo : Nat) : Instr :=
  match lo with
  | 0 => .add_a_b
  | 1 => .add_a_c
  | 2 => .add_a_d
  | 3 => .add_a_e
  | 4 => .add_a_h
  | 5 => .add_a_l
  | 6 => .add_a_atHl
  | 7 => .add_a_a
  | 8 => .adc_a_b
  | 9 => .adc_a_c
  | 10 => .adc_a_d
  | 11 => .adc_a_e
  | 12 => .adc_a_h
  | 13 => .adc_a_l
  | 14 => .adc_a_atHl
  | _ => .adc_a_a

/-- Row 9x of the base map (R104). -/
def baseRow9 (lo : Nat) : Instr :=
  match lo with
  | 0 => .sub_b
  | 1 => .sub_c
  | 2 => .sub_d
  | 3 => .sub_e
  | 4 => .sub_h
  | 5 => .sub_l
  | 6 => .sub_atHl
  | 7 => .sub_a
  | 8 => .sbc_a_b
  | 9 => .sbc_a_c
  | 10 => .sbc_a_d
  | 11 => .sbc_a_e
  | 12 => .sbc_a_h
  | 13 => .sbc_a_l
  | 14 => .sbc_a_atHl
  | _ => .sbc_a_a

/-- Row Ax of the base map (R104). -/
def baseRowA (lo : Nat) : Instr :=
  match lo with
  | 0 => .and_b
  | 1 => .and_c
  | 2 => .and_d
  | 3 => .and_e
  | 4 => .and_h
  | 5 => .and_l
  | 6 => .and_atHl
  | 7 => .and_a
  | 8 => .xor_b
  | 9 => .xor_c
  | 10 => .xor_d
  | 11 => .xor_e
  | 12 => .xor_h
  | 13 => .xor_l
  | 14 => .xor_atHl
  | _ => .xor_a

/-- Row Bx of the base map (R104). -/
def baseRowB (lo : Nat) : Instr :=
  match lo with
  | 0 => .or_b
  | 1 => .or_c
  | 2 => .or_d
  | 3 => .or_e
  | 4 => .or_h
  | 5 => .or_l
  | 6 => .or_atHl
  | 7 => .or_a
  | 8 => .cp_b
  | 9 => .cp_c
  | 10 => .cp_d
  | 11 => .cp_e
  | 12 => .cp_h
  | 13 => .cp_l
  | 14 => .cp_atHl
  | _ => .cp_a

/-- Row Cx of the base map (R104). -/
def baseRowC (lo : Nat) (b1 b2 : Byte) : Instr :=
  match lo with
  | 0 => .ret_nz
  | 1 => .pop_bc
  | 2 => .jp_nz_a16 (word16 b2 b1)
  | 3 => .jp_a16 (word16 b2 b1)
  | 4 => .call_nz_a16 (word16 b2 b1)
  | 5 => .push_bc
  | 6 => .add_a_d8 b1
  | 7 => .rst_00
  | 8 => .ret_z
  | 9 => .ret
  | 10 => .jp_z_a16 (word16 b2 b1)
  | 11 => decodeCb b1
  | 12 => .call_z_a16 (word16 b2 b1)
  | 13 => .call_a16 (word16 b2 b1)
  | 14 => .adc_a_d8 b1
  | _ => .rst_08

/-- Row Dx of the base map (R104). -/
def baseRowD (lo : Nat) (b1 b2 : Byte) : Instr :=
  match lo with
  | 0 => .ret_nc
  | 1 => .pop_de
  | 2 => .jp_nc_a16 (word16 b2 b1)
  | 3 => .undefined_d3
  | 4 => .call_nc_a16 (word16 b2 b1)
  | 5 => .push_de
  | 6 => .sub_d8 b1
  | 7 => .rst_10
  | 8 => .ret_c
  | 9 => .reti
  | 10 => .jp_c_a16 (word16 b2 b1)
  | 11 => .undefined_db
  | 12 => .call_c_a16 (word16 b2 b1)
  | 13 => .undefined_dd
  | 14 => .sbc_a_d8 b1
  | _ => .rst_18

/-- Row Ex of the base map (R104). -/
def baseRowE (lo : Nat) (b1 b2 : Byte) : Instr :=
  match lo with
  | 0 => .ldh_atA8_a b1
  | 1 => .pop_hl
  | 2 => .ld_atC_a
  | 3 => .undefined_e3
  | 4 => .undefined_e4
  | 5 => .push_hl
  | 6 => .and_d8 b1
  | 7 => .rst_20
  | 8 => .add_sp_e8 b1
  | 9 => .jp_hl
  | 10 => .ld_atA16_a (word16 b2 b1)
  | 11 => .undefined_eb
  | 12 => .undefined_ec
  | 13 => .undefined_ed
  | 14 => .xor_d8 b1
  | _ => .rst_28

/-- Row Fx of the base map (R104). -/
def baseRowF (lo : Nat) (b1 b2 : Byte) : Instr :=
  match lo with
  | 0 => .ldh_a_atA8 b1
  | 1 => .pop_af
  | 2 => .ld_a_atC
  | 3 => .di
  | 4 => .undefined_f4
  | 5 => .push_af
  | 6 => .or_d8 b1
  | 7 => .rst_30
  | 8 => .ld_hl_spE8 b1
  | 9 => .ld_sp_hl
  | 10 => .ld_a_atA16 (word16 b2 b1)
  | 11 => .ei
  | 12 => .undefined_fc
  | 13 => .undefined_fd
  | 14 => .cp_d8 b1
  | _ => .rst_38

/-- The instruction of an opcode byte and the two bytes after it, as many of them as its length takes (R97, R98). The
byte after the prefix 0xCB is decoded by the CB page (R96, R109). -/
def decodeBytes (op b1 b2 : Byte) : Instr :=
  let lo := op.toNat % 16
  match op.toNat / 16 with
  | 0 => baseRow0 lo b1 b2
  | 1 => baseRow1 lo b1 b2
  | 2 => baseRow2 lo b1 b2
  | 3 => baseRow3 lo b1 b2
  | 4 => baseRow4 lo
  | 5 => baseRow5 lo
  | 6 => baseRow6 lo
  | 7 => baseRow7 lo
  | 8 => baseRow8 lo
  | 9 => baseRow9 lo
  | 10 => baseRowA lo
  | 11 => baseRowB lo
  | 12 => baseRowC lo b1 b2
  | 13 => baseRowD lo b1 b2
  | 14 => baseRowE lo b1 b2
  | _ => baseRowF lo b1 b2

/-! ## Decoding a byte list -/

/-- Why a byte list gives no instruction: the two ways its end can come too soon. -/
inductive DecodeError where
  /-- There is no byte at all. -/
  | noBytes
  /-- The bytes end inside the instruction that this opcode begins. -/
  | truncated (opcode : Byte)
deriving DecidableEq, Repr

/-- The first instruction of a byte list, and the bytes after it (R90, R97). -/
def decode (bytes : List Byte) : Except DecodeError (Instr × List Byte) :=
  match bytes with
  | [] => .error .noBytes
  | op :: rest =>
    match opLength op, rest with
    | 1, rest => .ok (decodeBytes op 0 0, rest)
    | 2, b1 :: rest => .ok (decodeBytes op b1 0, rest)
    | 3, b1 :: b2 :: rest => .ok (decodeBytes op b1 b2, rest)
    | _, _ => .error (.truncated op)

/-! ## The encoder -/

/-- The bytes of an instruction, in address order (R91, R98: a word's low byte first). -/
def encode (i : Instr) : List Byte :=
  match i with
  | .nop => [0x00]
  | .ld_bc_d16 d16 => [0x01, loByte d16, hiByte d16]
  | .ld_atBc_a => [0x02]
  | .inc_bc => [0x03]
  | .inc_b => [0x04]
  | .dec_b => [0x05]
  | .ld_b_d8 d8 => [0x06, d8]
  | .rlca => [0x07]
  | .ld_atA16_sp a16 => [0x08, loByte a16, hiByte a16]
  | .add_hl_bc => [0x09]
  | .ld_a_atBc => [0x0A]
  | .dec_bc => [0x0B]
  | .inc_c => [0x0C]
  | .dec_c => [0x0D]
  | .ld_c_d8 d8 => [0x0E, d8]
  | .rrca => [0x0F]
  | .stop pad => [0x10, pad]
  | .ld_de_d16 d16 => [0x11, loByte d16, hiByte d16]
  | .ld_atDe_a => [0x12]
  | .inc_de => [0x13]
  | .inc_d => [0x14]
  | .dec_d => [0x15]
  | .ld_d_d8 d8 => [0x16, d8]
  | .rla => [0x17]
  | .jr_e8 e8 => [0x18, e8]
  | .add_hl_de => [0x19]
  | .ld_a_atDe => [0x1A]
  | .dec_de => [0x1B]
  | .inc_e => [0x1C]
  | .dec_e => [0x1D]
  | .ld_e_d8 d8 => [0x1E, d8]
  | .rra => [0x1F]
  | .jr_nz_e8 e8 => [0x20, e8]
  | .ld_hl_d16 d16 => [0x21, loByte d16, hiByte d16]
  | .ld_atHli_a => [0x22]
  | .inc_hl => [0x23]
  | .inc_h => [0x24]
  | .dec_h => [0x25]
  | .ld_h_d8 d8 => [0x26, d8]
  | .daa => [0x27]
  | .jr_z_e8 e8 => [0x28, e8]
  | .add_hl_hl => [0x29]
  | .ld_a_atHli => [0x2A]
  | .dec_hl => [0x2B]
  | .inc_l => [0x2C]
  | .dec_l => [0x2D]
  | .ld_l_d8 d8 => [0x2E, d8]
  | .cpl => [0x2F]
  | .jr_nc_e8 e8 => [0x30, e8]
  | .ld_sp_d16 d16 => [0x31, loByte d16, hiByte d16]
  | .ld_atHld_a => [0x32]
  | .inc_sp => [0x33]
  | .inc_atHl => [0x34]
  | .dec_atHl => [0x35]
  | .ld_atHl_d8 d8 => [0x36, d8]
  | .scf => [0x37]
  | .jr_c_e8 e8 => [0x38, e8]
  | .add_hl_sp => [0x39]
  | .ld_a_atHld => [0x3A]
  | .dec_sp => [0x3B]
  | .inc_a => [0x3C]
  | .dec_a => [0x3D]
  | .ld_a_d8 d8 => [0x3E, d8]
  | .ccf => [0x3F]
  | .ld_b_b => [0x40]
  | .ld_b_c => [0x41]
  | .ld_b_d => [0x42]
  | .ld_b_e => [0x43]
  | .ld_b_h => [0x44]
  | .ld_b_l => [0x45]
  | .ld_b_atHl => [0x46]
  | .ld_b_a => [0x47]
  | .ld_c_b => [0x48]
  | .ld_c_c => [0x49]
  | .ld_c_d => [0x4A]
  | .ld_c_e => [0x4B]
  | .ld_c_h => [0x4C]
  | .ld_c_l => [0x4D]
  | .ld_c_atHl => [0x4E]
  | .ld_c_a => [0x4F]
  | .ld_d_b => [0x50]
  | .ld_d_c => [0x51]
  | .ld_d_d => [0x52]
  | .ld_d_e => [0x53]
  | .ld_d_h => [0x54]
  | .ld_d_l => [0x55]
  | .ld_d_atHl => [0x56]
  | .ld_d_a => [0x57]
  | .ld_e_b => [0x58]
  | .ld_e_c => [0x59]
  | .ld_e_d => [0x5A]
  | .ld_e_e => [0x5B]
  | .ld_e_h => [0x5C]
  | .ld_e_l => [0x5D]
  | .ld_e_atHl => [0x5E]
  | .ld_e_a => [0x5F]
  | .ld_h_b => [0x60]
  | .ld_h_c => [0x61]
  | .ld_h_d => [0x62]
  | .ld_h_e => [0x63]
  | .ld_h_h => [0x64]
  | .ld_h_l => [0x65]
  | .ld_h_atHl => [0x66]
  | .ld_h_a => [0x67]
  | .ld_l_b => [0x68]
  | .ld_l_c => [0x69]
  | .ld_l_d => [0x6A]
  | .ld_l_e => [0x6B]
  | .ld_l_h => [0x6C]
  | .ld_l_l => [0x6D]
  | .ld_l_atHl => [0x6E]
  | .ld_l_a => [0x6F]
  | .ld_atHl_b => [0x70]
  | .ld_atHl_c => [0x71]
  | .ld_atHl_d => [0x72]
  | .ld_atHl_e => [0x73]
  | .ld_atHl_h => [0x74]
  | .ld_atHl_l => [0x75]
  | .halt => [0x76]
  | .ld_atHl_a => [0x77]
  | .ld_a_b => [0x78]
  | .ld_a_c => [0x79]
  | .ld_a_d => [0x7A]
  | .ld_a_e => [0x7B]
  | .ld_a_h => [0x7C]
  | .ld_a_l => [0x7D]
  | .ld_a_atHl => [0x7E]
  | .ld_a_a => [0x7F]
  | .add_a_b => [0x80]
  | .add_a_c => [0x81]
  | .add_a_d => [0x82]
  | .add_a_e => [0x83]
  | .add_a_h => [0x84]
  | .add_a_l => [0x85]
  | .add_a_atHl => [0x86]
  | .add_a_a => [0x87]
  | .adc_a_b => [0x88]
  | .adc_a_c => [0x89]
  | .adc_a_d => [0x8A]
  | .adc_a_e => [0x8B]
  | .adc_a_h => [0x8C]
  | .adc_a_l => [0x8D]
  | .adc_a_atHl => [0x8E]
  | .adc_a_a => [0x8F]
  | .sub_b => [0x90]
  | .sub_c => [0x91]
  | .sub_d => [0x92]
  | .sub_e => [0x93]
  | .sub_h => [0x94]
  | .sub_l => [0x95]
  | .sub_atHl => [0x96]
  | .sub_a => [0x97]
  | .sbc_a_b => [0x98]
  | .sbc_a_c => [0x99]
  | .sbc_a_d => [0x9A]
  | .sbc_a_e => [0x9B]
  | .sbc_a_h => [0x9C]
  | .sbc_a_l => [0x9D]
  | .sbc_a_atHl => [0x9E]
  | .sbc_a_a => [0x9F]
  | .and_b => [0xA0]
  | .and_c => [0xA1]
  | .and_d => [0xA2]
  | .and_e => [0xA3]
  | .and_h => [0xA4]
  | .and_l => [0xA5]
  | .and_atHl => [0xA6]
  | .and_a => [0xA7]
  | .xor_b => [0xA8]
  | .xor_c => [0xA9]
  | .xor_d => [0xAA]
  | .xor_e => [0xAB]
  | .xor_h => [0xAC]
  | .xor_l => [0xAD]
  | .xor_atHl => [0xAE]
  | .xor_a => [0xAF]
  | .or_b => [0xB0]
  | .or_c => [0xB1]
  | .or_d => [0xB2]
  | .or_e => [0xB3]
  | .or_h => [0xB4]
  | .or_l => [0xB5]
  | .or_atHl => [0xB6]
  | .or_a => [0xB7]
  | .cp_b => [0xB8]
  | .cp_c => [0xB9]
  | .cp_d => [0xBA]
  | .cp_e => [0xBB]
  | .cp_h => [0xBC]
  | .cp_l => [0xBD]
  | .cp_atHl => [0xBE]
  | .cp_a => [0xBF]
  | .ret_nz => [0xC0]
  | .pop_bc => [0xC1]
  | .jp_nz_a16 a16 => [0xC2, loByte a16, hiByte a16]
  | .jp_a16 a16 => [0xC3, loByte a16, hiByte a16]
  | .call_nz_a16 a16 => [0xC4, loByte a16, hiByte a16]
  | .push_bc => [0xC5]
  | .add_a_d8 d8 => [0xC6, d8]
  | .rst_00 => [0xC7]
  | .ret_z => [0xC8]
  | .ret => [0xC9]
  | .jp_z_a16 a16 => [0xCA, loByte a16, hiByte a16]
  | .prefix_cb cb => [0xCB, cb]
  | .call_z_a16 a16 => [0xCC, loByte a16, hiByte a16]
  | .call_a16 a16 => [0xCD, loByte a16, hiByte a16]
  | .adc_a_d8 d8 => [0xCE, d8]
  | .rst_08 => [0xCF]
  | .ret_nc => [0xD0]
  | .pop_de => [0xD1]
  | .jp_nc_a16 a16 => [0xD2, loByte a16, hiByte a16]
  | .undefined_d3 => [0xD3]
  | .call_nc_a16 a16 => [0xD4, loByte a16, hiByte a16]
  | .push_de => [0xD5]
  | .sub_d8 d8 => [0xD6, d8]
  | .rst_10 => [0xD7]
  | .ret_c => [0xD8]
  | .reti => [0xD9]
  | .jp_c_a16 a16 => [0xDA, loByte a16, hiByte a16]
  | .undefined_db => [0xDB]
  | .call_c_a16 a16 => [0xDC, loByte a16, hiByte a16]
  | .undefined_dd => [0xDD]
  | .sbc_a_d8 d8 => [0xDE, d8]
  | .rst_18 => [0xDF]
  | .ldh_atA8_a a8 => [0xE0, a8]
  | .pop_hl => [0xE1]
  | .ld_atC_a => [0xE2]
  | .undefined_e3 => [0xE3]
  | .undefined_e4 => [0xE4]
  | .push_hl => [0xE5]
  | .and_d8 d8 => [0xE6, d8]
  | .rst_20 => [0xE7]
  | .add_sp_e8 e8 => [0xE8, e8]
  | .jp_hl => [0xE9]
  | .ld_atA16_a a16 => [0xEA, loByte a16, hiByte a16]
  | .undefined_eb => [0xEB]
  | .undefined_ec => [0xEC]
  | .undefined_ed => [0xED]
  | .xor_d8 d8 => [0xEE, d8]
  | .rst_28 => [0xEF]
  | .ldh_a_atA8 a8 => [0xF0, a8]
  | .pop_af => [0xF1]
  | .ld_a_atC => [0xF2]
  | .di => [0xF3]
  | .undefined_f4 => [0xF4]
  | .push_af => [0xF5]
  | .or_d8 d8 => [0xF6, d8]
  | .rst_30 => [0xF7]
  | .ld_hl_spE8 e8 => [0xF8, e8]
  | .ld_sp_hl => [0xF9]
  | .ld_a_atA16 a16 => [0xFA, loByte a16, hiByte a16]
  | .ei => [0xFB]
  | .undefined_fc => [0xFC]
  | .undefined_fd => [0xFD]
  | .cp_d8 d8 => [0xFE, d8]
  | .rst_38 => [0xFF]
  | .rlc_b => [0xCB, 0x00]
  | .rlc_c => [0xCB, 0x01]
  | .rlc_d => [0xCB, 0x02]
  | .rlc_e => [0xCB, 0x03]
  | .rlc_h => [0xCB, 0x04]
  | .rlc_l => [0xCB, 0x05]
  | .rlc_atHl => [0xCB, 0x06]
  | .rlc_a => [0xCB, 0x07]
  | .rrc_b => [0xCB, 0x08]
  | .rrc_c => [0xCB, 0x09]
  | .rrc_d => [0xCB, 0x0A]
  | .rrc_e => [0xCB, 0x0B]
  | .rrc_h => [0xCB, 0x0C]
  | .rrc_l => [0xCB, 0x0D]
  | .rrc_atHl => [0xCB, 0x0E]
  | .rrc_a => [0xCB, 0x0F]
  | .rl_b => [0xCB, 0x10]
  | .rl_c => [0xCB, 0x11]
  | .rl_d => [0xCB, 0x12]
  | .rl_e => [0xCB, 0x13]
  | .rl_h => [0xCB, 0x14]
  | .rl_l => [0xCB, 0x15]
  | .rl_atHl => [0xCB, 0x16]
  | .rl_a => [0xCB, 0x17]
  | .rr_b => [0xCB, 0x18]
  | .rr_c => [0xCB, 0x19]
  | .rr_d => [0xCB, 0x1A]
  | .rr_e => [0xCB, 0x1B]
  | .rr_h => [0xCB, 0x1C]
  | .rr_l => [0xCB, 0x1D]
  | .rr_atHl => [0xCB, 0x1E]
  | .rr_a => [0xCB, 0x1F]
  | .sla_b => [0xCB, 0x20]
  | .sla_c => [0xCB, 0x21]
  | .sla_d => [0xCB, 0x22]
  | .sla_e => [0xCB, 0x23]
  | .sla_h => [0xCB, 0x24]
  | .sla_l => [0xCB, 0x25]
  | .sla_atHl => [0xCB, 0x26]
  | .sla_a => [0xCB, 0x27]
  | .sra_b => [0xCB, 0x28]
  | .sra_c => [0xCB, 0x29]
  | .sra_d => [0xCB, 0x2A]
  | .sra_e => [0xCB, 0x2B]
  | .sra_h => [0xCB, 0x2C]
  | .sra_l => [0xCB, 0x2D]
  | .sra_atHl => [0xCB, 0x2E]
  | .sra_a => [0xCB, 0x2F]
  | .swap_b => [0xCB, 0x30]
  | .swap_c => [0xCB, 0x31]
  | .swap_d => [0xCB, 0x32]
  | .swap_e => [0xCB, 0x33]
  | .swap_h => [0xCB, 0x34]
  | .swap_l => [0xCB, 0x35]
  | .swap_atHl => [0xCB, 0x36]
  | .swap_a => [0xCB, 0x37]
  | .srl_b => [0xCB, 0x38]
  | .srl_c => [0xCB, 0x39]
  | .srl_d => [0xCB, 0x3A]
  | .srl_e => [0xCB, 0x3B]
  | .srl_h => [0xCB, 0x3C]
  | .srl_l => [0xCB, 0x3D]
  | .srl_atHl => [0xCB, 0x3E]
  | .srl_a => [0xCB, 0x3F]
  | .bit_0_b => [0xCB, 0x40]
  | .bit_0_c => [0xCB, 0x41]
  | .bit_0_d => [0xCB, 0x42]
  | .bit_0_e => [0xCB, 0x43]
  | .bit_0_h => [0xCB, 0x44]
  | .bit_0_l => [0xCB, 0x45]
  | .bit_0_atHl => [0xCB, 0x46]
  | .bit_0_a => [0xCB, 0x47]
  | .bit_1_b => [0xCB, 0x48]
  | .bit_1_c => [0xCB, 0x49]
  | .bit_1_d => [0xCB, 0x4A]
  | .bit_1_e => [0xCB, 0x4B]
  | .bit_1_h => [0xCB, 0x4C]
  | .bit_1_l => [0xCB, 0x4D]
  | .bit_1_atHl => [0xCB, 0x4E]
  | .bit_1_a => [0xCB, 0x4F]
  | .bit_2_b => [0xCB, 0x50]
  | .bit_2_c => [0xCB, 0x51]
  | .bit_2_d => [0xCB, 0x52]
  | .bit_2_e => [0xCB, 0x53]
  | .bit_2_h => [0xCB, 0x54]
  | .bit_2_l => [0xCB, 0x55]
  | .bit_2_atHl => [0xCB, 0x56]
  | .bit_2_a => [0xCB, 0x57]
  | .bit_3_b => [0xCB, 0x58]
  | .bit_3_c => [0xCB, 0x59]
  | .bit_3_d => [0xCB, 0x5A]
  | .bit_3_e => [0xCB, 0x5B]
  | .bit_3_h => [0xCB, 0x5C]
  | .bit_3_l => [0xCB, 0x5D]
  | .bit_3_atHl => [0xCB, 0x5E]
  | .bit_3_a => [0xCB, 0x5F]
  | .bit_4_b => [0xCB, 0x60]
  | .bit_4_c => [0xCB, 0x61]
  | .bit_4_d => [0xCB, 0x62]
  | .bit_4_e => [0xCB, 0x63]
  | .bit_4_h => [0xCB, 0x64]
  | .bit_4_l => [0xCB, 0x65]
  | .bit_4_atHl => [0xCB, 0x66]
  | .bit_4_a => [0xCB, 0x67]
  | .bit_5_b => [0xCB, 0x68]
  | .bit_5_c => [0xCB, 0x69]
  | .bit_5_d => [0xCB, 0x6A]
  | .bit_5_e => [0xCB, 0x6B]
  | .bit_5_h => [0xCB, 0x6C]
  | .bit_5_l => [0xCB, 0x6D]
  | .bit_5_atHl => [0xCB, 0x6E]
  | .bit_5_a => [0xCB, 0x6F]
  | .bit_6_b => [0xCB, 0x70]
  | .bit_6_c => [0xCB, 0x71]
  | .bit_6_d => [0xCB, 0x72]
  | .bit_6_e => [0xCB, 0x73]
  | .bit_6_h => [0xCB, 0x74]
  | .bit_6_l => [0xCB, 0x75]
  | .bit_6_atHl => [0xCB, 0x76]
  | .bit_6_a => [0xCB, 0x77]
  | .bit_7_b => [0xCB, 0x78]
  | .bit_7_c => [0xCB, 0x79]
  | .bit_7_d => [0xCB, 0x7A]
  | .bit_7_e => [0xCB, 0x7B]
  | .bit_7_h => [0xCB, 0x7C]
  | .bit_7_l => [0xCB, 0x7D]
  | .bit_7_atHl => [0xCB, 0x7E]
  | .bit_7_a => [0xCB, 0x7F]
  | .res_0_b => [0xCB, 0x80]
  | .res_0_c => [0xCB, 0x81]
  | .res_0_d => [0xCB, 0x82]
  | .res_0_e => [0xCB, 0x83]
  | .res_0_h => [0xCB, 0x84]
  | .res_0_l => [0xCB, 0x85]
  | .res_0_atHl => [0xCB, 0x86]
  | .res_0_a => [0xCB, 0x87]
  | .res_1_b => [0xCB, 0x88]
  | .res_1_c => [0xCB, 0x89]
  | .res_1_d => [0xCB, 0x8A]
  | .res_1_e => [0xCB, 0x8B]
  | .res_1_h => [0xCB, 0x8C]
  | .res_1_l => [0xCB, 0x8D]
  | .res_1_atHl => [0xCB, 0x8E]
  | .res_1_a => [0xCB, 0x8F]
  | .res_2_b => [0xCB, 0x90]
  | .res_2_c => [0xCB, 0x91]
  | .res_2_d => [0xCB, 0x92]
  | .res_2_e => [0xCB, 0x93]
  | .res_2_h => [0xCB, 0x94]
  | .res_2_l => [0xCB, 0x95]
  | .res_2_atHl => [0xCB, 0x96]
  | .res_2_a => [0xCB, 0x97]
  | .res_3_b => [0xCB, 0x98]
  | .res_3_c => [0xCB, 0x99]
  | .res_3_d => [0xCB, 0x9A]
  | .res_3_e => [0xCB, 0x9B]
  | .res_3_h => [0xCB, 0x9C]
  | .res_3_l => [0xCB, 0x9D]
  | .res_3_atHl => [0xCB, 0x9E]
  | .res_3_a => [0xCB, 0x9F]
  | .res_4_b => [0xCB, 0xA0]
  | .res_4_c => [0xCB, 0xA1]
  | .res_4_d => [0xCB, 0xA2]
  | .res_4_e => [0xCB, 0xA3]
  | .res_4_h => [0xCB, 0xA4]
  | .res_4_l => [0xCB, 0xA5]
  | .res_4_atHl => [0xCB, 0xA6]
  | .res_4_a => [0xCB, 0xA7]
  | .res_5_b => [0xCB, 0xA8]
  | .res_5_c => [0xCB, 0xA9]
  | .res_5_d => [0xCB, 0xAA]
  | .res_5_e => [0xCB, 0xAB]
  | .res_5_h => [0xCB, 0xAC]
  | .res_5_l => [0xCB, 0xAD]
  | .res_5_atHl => [0xCB, 0xAE]
  | .res_5_a => [0xCB, 0xAF]
  | .res_6_b => [0xCB, 0xB0]
  | .res_6_c => [0xCB, 0xB1]
  | .res_6_d => [0xCB, 0xB2]
  | .res_6_e => [0xCB, 0xB3]
  | .res_6_h => [0xCB, 0xB4]
  | .res_6_l => [0xCB, 0xB5]
  | .res_6_atHl => [0xCB, 0xB6]
  | .res_6_a => [0xCB, 0xB7]
  | .res_7_b => [0xCB, 0xB8]
  | .res_7_c => [0xCB, 0xB9]
  | .res_7_d => [0xCB, 0xBA]
  | .res_7_e => [0xCB, 0xBB]
  | .res_7_h => [0xCB, 0xBC]
  | .res_7_l => [0xCB, 0xBD]
  | .res_7_atHl => [0xCB, 0xBE]
  | .res_7_a => [0xCB, 0xBF]
  | .set_0_b => [0xCB, 0xC0]
  | .set_0_c => [0xCB, 0xC1]
  | .set_0_d => [0xCB, 0xC2]
  | .set_0_e => [0xCB, 0xC3]
  | .set_0_h => [0xCB, 0xC4]
  | .set_0_l => [0xCB, 0xC5]
  | .set_0_atHl => [0xCB, 0xC6]
  | .set_0_a => [0xCB, 0xC7]
  | .set_1_b => [0xCB, 0xC8]
  | .set_1_c => [0xCB, 0xC9]
  | .set_1_d => [0xCB, 0xCA]
  | .set_1_e => [0xCB, 0xCB]
  | .set_1_h => [0xCB, 0xCC]
  | .set_1_l => [0xCB, 0xCD]
  | .set_1_atHl => [0xCB, 0xCE]
  | .set_1_a => [0xCB, 0xCF]
  | .set_2_b => [0xCB, 0xD0]
  | .set_2_c => [0xCB, 0xD1]
  | .set_2_d => [0xCB, 0xD2]
  | .set_2_e => [0xCB, 0xD3]
  | .set_2_h => [0xCB, 0xD4]
  | .set_2_l => [0xCB, 0xD5]
  | .set_2_atHl => [0xCB, 0xD6]
  | .set_2_a => [0xCB, 0xD7]
  | .set_3_b => [0xCB, 0xD8]
  | .set_3_c => [0xCB, 0xD9]
  | .set_3_d => [0xCB, 0xDA]
  | .set_3_e => [0xCB, 0xDB]
  | .set_3_h => [0xCB, 0xDC]
  | .set_3_l => [0xCB, 0xDD]
  | .set_3_atHl => [0xCB, 0xDE]
  | .set_3_a => [0xCB, 0xDF]
  | .set_4_b => [0xCB, 0xE0]
  | .set_4_c => [0xCB, 0xE1]
  | .set_4_d => [0xCB, 0xE2]
  | .set_4_e => [0xCB, 0xE3]
  | .set_4_h => [0xCB, 0xE4]
  | .set_4_l => [0xCB, 0xE5]
  | .set_4_atHl => [0xCB, 0xE6]
  | .set_4_a => [0xCB, 0xE7]
  | .set_5_b => [0xCB, 0xE8]
  | .set_5_c => [0xCB, 0xE9]
  | .set_5_d => [0xCB, 0xEA]
  | .set_5_e => [0xCB, 0xEB]
  | .set_5_h => [0xCB, 0xEC]
  | .set_5_l => [0xCB, 0xED]
  | .set_5_atHl => [0xCB, 0xEE]
  | .set_5_a => [0xCB, 0xEF]
  | .set_6_b => [0xCB, 0xF0]
  | .set_6_c => [0xCB, 0xF1]
  | .set_6_d => [0xCB, 0xF2]
  | .set_6_e => [0xCB, 0xF3]
  | .set_6_h => [0xCB, 0xF4]
  | .set_6_l => [0xCB, 0xF5]
  | .set_6_atHl => [0xCB, 0xF6]
  | .set_6_a => [0xCB, 0xF7]
  | .set_7_b => [0xCB, 0xF8]
  | .set_7_c => [0xCB, 0xF9]
  | .set_7_d => [0xCB, 0xFA]
  | .set_7_e => [0xCB, 0xFB]
  | .set_7_h => [0xCB, 0xFC]
  | .set_7_l => [0xCB, 0xFD]
  | .set_7_atHl => [0xCB, 0xFE]
  | .set_7_a => [0xCB, 0xFF]

/-- The length of an instruction in bytes (R90). -/
def Instr.length (i : Instr) : Nat := (encode i).length

/-! ## Words numbered as the opcode table numbers them

The table gives a base row its opcode byte in bits 7:0 (mask 0xFF), and a CB row the 16-bit value `0xCB00 | cb`, "where
the first byte fetched is the high half" (R111). So a word of 16 bits or more whose bits 15:8 are 0xCB is read as a CB row; in
every other word the first byte is bits 7:0, the second bits 15:8 and the third bits 23:16 (log entry 6). -/

/-- The bytes, in address order, of the instruction whose table word is `w`. -/
def tableBytes (nbits w : Nat) : Byte × Byte × Byte :=
  let byte (k : Nat) : Byte := BitVec.ofNat 8 (w / 256 ^ k)
  if nbits ≥ 16 ∧ byte 1 = 0xCB then (byte 1, byte 0, byte 2) else (byte 0, byte 1, byte 2)

/-- The instruction the decoder reads from the word `w` of `nbits` bits, every bit above them 0. -/
def decodeTableWord (nbits w : Nat) : Option Instr :=
  let (b0, b1, b2) := tableBytes nbits (w % 2 ^ nbits)
  match decode [b0, b1, b2] with
  | .ok (i, _) => some i
  | .error _ => none

end Sys2Proof
end

