-- ==== Sys2Proof/Config.lean ====
section
/-! DEFINITION. The launch parameters of R9 (`spec/00_scope.md`), as plain data, and the one free value of the model:
what a collaborator answers where the environment has promised nothing.

The parameters are arguments of the spec's model, fixed for the whole run (R304). They are a record that State carries
and no step changes, so that a statement about every state holds for every value of them (log entry 1). -/

namespace Sys2Proof

/-- `timing_profile` (R9, decision D16): the cycle table that POP and a taken JP cc use (R143, R202, R310). -/
inductive TimingProfile where
  | standard
  | docLiteral
deriving DecidableEq, Repr

/-- `obj_priority` (R9, decision D29): the order in which overlapping sprites are tried (R278). -/
inductive ObjPriority where
  | oamIndex
  | dmgX
deriving DecidableEq, Repr

/-- The host's fault policy (R239, decision D35). -/
inductive FaultPolicy where
  | halt
  | skip
  | abort
deriving DecidableEq, Repr

/-- The launch parameters of R9 with their defaults. -/
structure Config where
  /-- `halt_bug` (D13): HALT with IME=0 and a request pending repeats the next byte's fetch (R221, R97). -/
  haltBug : Bool := false
  /-- `timing_profile` (D16). -/
  timing : TimingProfile := .standard
  /-- `obj_priority` (D29). -/
  objPriority : ObjPriority := .oamIndex
  /-- The fault policy (D35); read by the driver of `Sys2Proof/Machine/Driver.lean` only. -/
  faultPolicy : FaultPolicy := .halt
deriving DecidableEq, Repr

/-- FREE VALUE (log entry 3): the byte that a collaborator (`cart` or `io_ext`) answers to the `n`-th open read of the
run, at an address. R64 and R66 call such an answer a draw: "any byte, chosen by the environment". It has no body:
nothing can be proved of its value, so a claim that holds holds for every answer. -/
opaque Config.extAnswer : Nat → Word → Byte

end Sys2Proof
end

