-- ==== Sys2Proof/Machine/State.lean ====
section
/-! DEFINITION. The state of the machine as plain data, the reasons a step can stop, and the state after reset
(`spec/10_state.md`). The record has the spec's own parts: the CPU, the interrupt controller, the PPU and the storage
the bus owns (the introduction of `spec/10_state.md`); the fifth part, `Env`, holds what the environment fixes or sends
(R9, R239, R285). -/

namespace Sys2Proof.Machine

/-- The faults a step can end with (R237). Of the three names of the spec's taxonomy only this one ends a step:
`BusFault` and `RenderingOutOfRange` are absorbed (R66, R68, R237). -/
inductive Fault where
  /-- `InvalidOpcode{pc, opcode}` (R225, R236). Raised by the meanings of the eleven undefined opcodes, with the
  address of the opcode and the byte. The spec itself names this fault and says the step has no other effect, so it is
  safe: the machine stops where the spec says it stops. -/
  | invalidOpcode (pc : Word) (opcode : Byte)
deriving DecidableEq, Repr

/-- The refusals of the model. -/
inductive Refusal where
  /-- An instruction without a meaning. No arm of `exec` answers it: every row of the opcode table has its meaning.
  Raised by nobody; it would be safe. -/
  | notModelled (mnemonic : String)
deriving DecidableEq, Repr

/-- The PPU's mode (R41). -/
inductive PpuMode where
  /-- mode 0 -/
  | hblank
  /-- mode 1 -/
  | vblank
  /-- mode 2 -/
  | oamScan
  /-- mode 3 -/
  | transfer
deriving DecidableEq, Repr

/-- The interrupt sources that lie outside the core and reach it by the host move `raise(k)` (R240, R285). -/
inductive ExtIrq where
  /-- bit 2 -/
  | timer
  /-- bit 3 -/
  | serial
  /-- bit 4 -/
  | input
deriving DecidableEq, Repr

/-- The moves of the environment that change the core between two steps (R285). `skip_invalid`, which the host may
make only after a fault, is `skipInvalid` of `Sys2Proof/Machine/Driver.lean`. -/
inductive HostMove where
  /-- `raise(k)`, k = 2, 3, 4 -/
  | raise (k : ExtIrq)
  /-- `stop_wake` -/
  | stopWake
deriving DecidableEq, Repr

/-- The CPU: the register file (R20 to R24), IME and its delay (R27, R28), the run state (R31, R32), and the step's
cycle count (R11, R231). -/
structure Cpu where
  a : Byte
  /-- Flags: bit 7 Z, bit 6 N, bit 5 H, bit 4 C; bits 3:0 are 0 (R23, R24). -/
  f : Byte
  b : Byte
  c : Byte
  d : Byte
  e : Byte
  h : Byte
  l : Byte
  sp : Word
  pc : Word
  /-- Interrupt master enable (R27). -/
  ime : Bool
  /-- Instruction boundaries left until a pending EI takes effect: 0, 1 or 2 (R28). -/
  eiDelay : Nat
  halted : Bool
  stopped : Bool
  /-- Only set when the parameter `halt_bug` is true (R32). -/
  haltBugLatch : Bool
  /-- `cycles`: what the latest step returned, `Ok(cycles)` (R11, R231). -/
  cycles : Nat
deriving DecidableEq, Repr

/-- The interrupt controller (R29, R30). -/
structure Irq where
  /-- IE, at 0xFFFF: all eight bits are stored (R29). -/
  ie : Byte
  /-- IF, at 0xFF0F: the five stored bits (R30). -/
  ifr : BitVec 5
deriving DecidableEq, Repr

/-- The PPU: its registers (R33 to R39), its timing state (R40 to R44), its framebuffer (R45) and its output
`frame_event` (R46). -/
structure Ppu where
  lcdc : Byte
  /-- `stat_en = STAT[6:3]` (R34): bit 0 mode 0, bit 1 mode 1, bit 2 mode 2, bit 3 LYC. -/
  statEn : BitVec 4
  scy : Byte
  scx : Byte
  lyc : Byte
  bgp : Byte
  obp0 : Byte
  obp1 : Byte
  wy : Byte
  wx : Byte
  mode : PpuMode
  /-- LY, 0..153 (R36). -/
  ly : Byte
  /-- Dots already spent on the scanline, 0..455 (R42). -/
  dot : Nat
  /-- Window-internal line counter, 0..255 (R43). -/
  windowLine : Byte
  lcdRunning : Bool
  /-- Dots spent with the display off since the last blank frame boundary, 0..70223 (R44). -/
  offDots : Nat
  /-- `framebuffer[y][x]`, 144 rows of 160 shades (R45). -/
  framebuffer : List (List (BitVec 2))
  /-- Frame boundaries that the latest PPU advance passed (R46). -/
  frameEvent : Nat
deriving DecidableEq, Repr

/-- What lies behind the bus: the storage arrays (R47) and the interface to the collaborators (R64 to R66, R285). -/
structure Bus where
  /-- VRAM, WRAM, OAM and HRAM as one sparse list of bytes by bus address, in the canonical form of `Memory.wf`. -/
  mem : List Host.Cell
  /-- What the environment has promised of its collaborators: the bytes `cart_read` and `io_read` answer at these
  addresses for the whole run (a ROM image, R305 item 1). An address not listed is open: its answer is a draw. -/
  ext : List Host.Cell
  /-- The writes handed to the collaborators, newest first (R285: the core gives "the address and byte"). -/
  extWrites : List Host.Cell
  /-- MODEL'S OWN FIELD (log entry 3): how many open collaborator reads there have been; the argument of
  `Config.extAnswer`. -/
  draws : Nat
deriving DecidableEq, Repr

/-- What the environment fixes or sends: the launch parameters (R9), the moves it makes before each coming step
(R285), and the fault log (R239). -/
structure Env where
  cfg : Config
  /-- The host's moves to come: the first list is made before the next step, the second before the step after that,
  and so on; none when the list is empty. -/
  moves : List (List HostMove)
  /-- Every fault of the run, oldest first (R239). -/
  faultLog : List Fault
deriving DecidableEq, Repr

/-- The whole machine. -/
structure State where
  cpu : Cpu
  irq : Irq
  ppu : Ppu
  bus : Bus
  env : Env
deriving DecidableEq, Repr

/-- The blank frame: 144 rows of 160 shades 0 (R45, R48, R267). -/
def blankFramebuffer : List (List (BitVec 2)) := List.replicate 144 (List.replicate 160 0)

/-- The state right after reset, every field at the value of R48 (and R300, R303, R304). The storage contents `mem0`
and the collaborators are open (R302): here the storage reads 0 everywhere and nothing is promised of a collaborator
(log entries 2 and 3). -/
def State.reset : State where
  cpu :=
    { a := 0x01, f := 0xB0, b := 0x00, c := 0x13, d := 0x00, e := 0xD8, h := 0x01, l := 0x4D
      sp := 0xFFFE, pc := 0x0100, ime := false, eiDelay := 0
      halted := false, stopped := false, haltBugLatch := false, cycles := 0 }
  irq := { ie := 0x00, ifr := 0x01 }
  ppu :=
    { lcdc := 0x91, statEn := 0, scy := 0x00, scx := 0x00, lyc := 0x00
      bgp := 0xFC, obp0 := 0xFF, obp1 := 0xFF, wy := 0x00, wx := 0x00
      mode := .oamScan, ly := 0, dot := 0, windowLine := 0, lcdRunning := true, offDots := 0
      framebuffer := blankFramebuffer, frameEvent := 0 }
  bus := { mem := [], ext := [], extWrites := [], draws := 0 }
  env := { cfg := {}, moves := [], faultLog := [] }

end Sys2Proof.Machine
end

