-- ==== Sys2Proof/Machine/Memory.lean ====
section
/-! DEFINITION. Storage as a sparse list of cells in one canonical form, and the collaborators' promised bytes as a
sorted list of cells. Nothing here knows the address map; the bus of `Sys2Proof/Machine/Ops.lean` does. -/

namespace Sys2Proof.Machine

/-- What a storage address reads as when it is not listed. R302 leaves `mem0` open; a fixed 0 is the model's choice for
the unlisted byte (log entry 2), and a State may list any other contents. -/
def Memory.unlisted : Byte := 0

/-- The byte at address `k`. -/
def Memory.read : List Host.Cell → Nat → Byte
  | [], _ => Memory.unlisted
  | (j, v) :: m, k => if k = j then v else Memory.read m k

/-- The cells after storing `v` at `k`: in order of address, and no cell for a byte equal to the unlisted one. -/
def Memory.write : List Host.Cell → Nat → Byte → List Host.Cell
  | [], k, v => if v = Memory.unlisted then [] else [(k, v)]
  | (j, w) :: m, k, v =>
    if k < j then (if v = Memory.unlisted then (j, w) :: m else (k, v) :: (j, w) :: m)
    else if k = j then (if v = Memory.unlisted then m else (k, v) :: m)
    else (j, w) :: Memory.write m k v

/-- Addresses strictly rise, all of them above `lo` when it is given. -/
def Memory.sortedAbove : Option Nat → List Host.Cell → Bool
  | _, [] => true
  | none, (j, _) :: m => Memory.sortedAbove (some j) m
  | some lo, (j, _) :: m => decide (lo < j) && Memory.sortedAbove (some j) m

/-- The bus addresses that storage owns (R47, R61), an echo address counting as the WRAM address it stands for (R63):
VRAM, WRAM, OAM, HRAM. -/
def Memory.isStorage (k : Nat) : Bool :=
  decide (0x8000 ≤ k ∧ k ≤ 0x9FFF) || decide (0xC000 ≤ k ∧ k ≤ 0xDFFF) ||
    decide (0xFE00 ≤ k ∧ k ≤ 0xFE9F) || decide (0xFF80 ≤ k ∧ k ≤ 0xFFFE)

/-- The canonical form: addresses strictly rise, every address is a storage address, no cell holds the unlisted byte. -/
def Memory.wf (m : List Host.Cell) : Bool :=
  Memory.sortedAbove none m && m.all (fun x => Memory.isStorage x.1 && decide (x.2 ≠ Memory.unlisted))

/-- The byte the environment has promised for address `k`, if it has promised one. -/
def Memory.lookup : List Host.Cell → Nat → Option Byte
  | [], _ => none
  | (j, v) :: m, k => if k = j then some v else Memory.lookup m k

/-- The promises with `v` promised for address `k`, in order of address. -/
def Memory.promise : List Host.Cell → Nat → Byte → List Host.Cell
  | [], k, v => [(k, v)]
  | (j, w) :: m, k, v =>
    if k < j then (k, v) :: (j, w) :: m
    else if k = j then (k, v) :: m
    else (j, w) :: Memory.promise m k v

end Sys2Proof.Machine
end

