-- ==== Sys2Proof/Machine/Ops.lean ====
section
/-! DEFINITION. The named operations every instruction is written over: the bus (`spec/20_memory.md`), the stack
(R140, R141), the interrupt controller and the taking of an interrupt, with the return from one beside it (R233, R240 to
R243, R210), and the InvalidOpcode fault (R225, R236). -/

namespace Sys2Proof.Machine

/-- What a meaning answers. -/
abbrev Result := Host.Outcome State Fault Refusal

/-! ## The bus -/

/-- The core-owned memory-mapped registers (R62). -/
inductive IoReg where
  | ifr | lcdc | stat | scy | scx | ly | lyc | bgp | obp0 | obp1 | wy | wx | ie
deriving DecidableEq, Repr

/-- The two collaborators that own the rest of the address space (R61, D4). -/
inductive Collaborator where
  | cart | ioExt
deriving DecidableEq, Repr

/-- Where the bus sends an access (R61, R64). -/
inductive Route where
  /-- A storage byte, by the bus address that holds it (an echo address is already taken to WRAM). -/
  | storage (k : Nat)
  | reg (r : IoReg)
  | ext (who : Collaborator)
deriving DecidableEq, Repr

/-- The core register at an I/O address (R62); none at 0xFF46 and the other addresses that go to `io_ext`. -/
def ioReg (n : Nat) : Option IoReg :=
  match n with
  | 0xFF0F => some .ifr
  | 0xFF40 => some .lcdc
  | 0xFF41 => some .stat
  | 0xFF42 => some .scy
  | 0xFF43 => some .scx
  | 0xFF44 => some .ly
  | 0xFF45 => some .lyc
  | 0xFF47 => some .bgp
  | 0xFF48 => some .obp0
  | 0xFF49 => some .obp1
  | 0xFF4A => some .wy
  | 0xFF4B => some .wx
  | 0xFFFF => some .ie
  | _ => none

/-- The address map (R61), with the echo of WRAM (R63). -/
def route (a : Word) : Route :=
  let n := a.toNat
  if n ≤ 0x7FFF then .ext .cart
  else if n ≤ 0x9FFF then .storage n
  else if n ≤ 0xBFFF then .ext .cart
  else if n ≤ 0xDFFF then .storage n
  else if n ≤ 0xFDFF then .storage (n - 0x2000)
  else if n ≤ 0xFE9F then .storage n
  else if n ≤ 0xFEFF then .ext .ioExt
  else if 0xFF80 ≤ n ∧ n ≤ 0xFFFE then .storage n
  else match ioReg n with
    | some r => .reg r
    | none => .ext .ioExt

/-- The two bits of STAT[1:0] for a mode (R41). -/
def PpuMode.code : PpuMode → BitVec 2
  | .hblank => 0
  | .vblank => 1
  | .oamScan => 2
  | .transfer => 3

/-- A read of STAT (R34): `0x80 | stat_en<<3 | (LY==LYC)<<2 | mode`. -/
def readStat (p : Ppu) : Byte :=
  1#1 ++ p.statEn ++ BitVec.ofBool (p.ly == p.lyc) ++ p.mode.code

/-- The read column of R62. -/
def readIoReg (r : IoReg) (s : State) : Byte :=
  match r with
  | .ifr => 0b111#3 ++ s.irq.ifr
  | .lcdc => s.ppu.lcdc
  | .stat => readStat s.ppu
  | .scy => s.ppu.scy
  | .scx => s.ppu.scx
  | .ly => s.ppu.ly
  | .lyc => s.ppu.lyc
  | .bgp => s.ppu.bgp
  | .obp0 => s.ppu.obp0
  | .obp1 => s.ppu.obp1
  | .wy => s.ppu.wy
  | .wx => s.ppu.wx
  | .ie => s.irq.ie

/-- The write column of R62. -/
def writeIoReg (r : IoReg) (v : Byte) (s : State) : State :=
  match r with
  | .ifr => { s with irq.ifr := v.extractLsb' 0 5 }
  | .lcdc => { s with ppu.lcdc := v }
  | .stat => { s with ppu.statEn := v.extractLsb' 3 4 }
  | .scy => { s with ppu.scy := v }
  | .scx => { s with ppu.scx := v }
  | .ly => s
  | .lyc => { s with ppu.lyc := v }
  | .bgp => { s with ppu.bgp := v }
  | .obp0 => { s with ppu.obp0 := v }
  | .obp1 => { s with ppu.obp1 := v }
  | .wy => { s with ppu.wy := v }
  | .wx => { s with ppu.wx := v }
  | .ie => { s with irq.ie := v }

/-- The byte the bus holds at an address, where it is settled: storage, a core register, or a byte the environment has
promised of a collaborator. None where a collaborator's answer is open. -/
def byteAt (a : Word) (s : State) : Option Byte :=
  match route a with
  | .storage k => some (Memory.read s.bus.mem k)
  | .reg r => some (readIoReg r s)
  | .ext _ => Memory.lookup s.bus.ext a.toNat

/-- `MemRead(a, 1)` (R64). A read of a settled byte changes nothing (R67); an open read is a draw (R66). -/
def memRead (a : Word) (s : State) : Byte × State :=
  match byteAt a s with
  | some v => (v, s)
  | none => (Config.extAnswer s.bus.draws a, { s with bus.draws := s.bus.draws + 1 })

/-- `MemWrite(a, 1, v)` (R65). A write to a collaborator hands it the address and the byte and changes nothing in the
core (R65, R285). -/
def memWrite (a : Word) (v : Byte) (s : State) : State :=
  match route a with
  | .storage k => { s with bus.mem := Memory.write s.bus.mem k v }
  | .reg r => writeIoReg r v s
  | .ext _ => { s with bus.extWrites := (a.toNat, v) :: s.bus.extWrites }

/-! ## Small updates -/

/-- `PC <- v`. -/
def setPc (v : Word) (s : State) : State := { s with cpu.pc := v }

/-- `SP <- v`. -/
def setSp (v : Word) (s : State) : State := { s with cpu.sp := v }

/-- `cycles <- n` (R231). -/
def setCycles (n : Nat) (s : State) : State := { s with cpu.cycles := n }

/-! ## The stack -/

/-- `push16(v)` (R140): the high byte at SP-1 first, then the low byte at SP-2. -/
def push16 (v : Word) (s : State) : State :=
  let s1 := memWrite (s.cpu.sp - 1) (hiByte v) (setSp (s.cpu.sp - 1) s)
  memWrite (s1.cpu.sp - 1) (loByte v) (setSp (s1.cpu.sp - 1) s1)

/-- `pop16()` (R141): the low byte at SP first, then the high byte at SP+1. -/
def pop16 (s : State) : Word × State :=
  let (lo, s1) := memRead s.cpu.sp s
  let s2 := setSp (s1.cpu.sp + 1) s1
  let (hi, s3) := memRead s2.cpu.sp s2
  (word16 hi lo, setSp (s3.cpu.sp + 1) s3)

/-! ## Interrupts -/

/-- `request(k)` (R240): `IF[k] <- 1`. -/
def request (k : Nat) (s : State) : State :=
  { s with irq.ifr := s.irq.ifr ||| BitVec.twoPow 5 k }

/-- `ack(k)` (R241): `IF[k] <- 0`. -/
def ack (k : Nat) (s : State) : State :=
  { s with irq.ifr := s.irq.ifr &&& ~~~(BitVec.twoPow 5 k) }

/-- `pending_and_enabled()` (R242): `IE[4:0] & IF[4:0]`. -/
def pendingAndEnabled (s : State) : BitVec 5 := s.irq.ie.extractLsb' 0 5 &&& s.irq.ifr

/-- The lowest set bit (R243), 4 when no lower bit is set. -/
def lowestSet (p : BitVec 5) : Nat :=
  if p.getLsbD 0 then 0 else if p.getLsbD 1 then 1 else if p.getLsbD 2 then 2 else if p.getLsbD 3 then 3 else 4

/-- The vector of source `k` (R29, R233): `0x0040 + 8*k`. -/
def vector (k : Nat) : Word := BitVec.ofNat 16 (0x40 + 8 * k)

/-- TAKING AN INTERRUPT: `dispatch()` (R233). The source is chosen first (D11); IME and a pending EI are cleared, the
request is acknowledged, HALT ends, PC is pushed and control goes to the vector. It costs `dispatchCycles`. -/
def takeInterrupt (s : State) : State :=
  let k := lowestSet (pendingAndEnabled s)
  let s1 := ack k { s with cpu.ime := false, cpu.eiDelay := 0, cpu.halted := false }
  setPc (vector k) (push16 s1.cpu.pc s1)

/-- What a dispatch costs (R8, R233): 20 cycles. -/
def dispatchCycles : Nat := 20

/-- RETURNING FROM AN INTERRUPT (R210): `PC <- pop16(); IME <- 1; ei_delay <- 0`. -/
def returnFromInterrupt (s : State) : State :=
  let (v, s1) := pop16 s
  { s1 with cpu.pc := v, cpu.ime := true, cpu.eiDelay := 0 }

/-! ## The fault -/

/-- `raise InvalidOpcode(pc, op)` (R225, R236): the step ends with the fault and no effect. The fetch has put PC back
to the opcode's address (R97), so the record's `pc` is PC. -/
def raiseInvalidOpcode (op : Byte) (s : State) : Result := .fault (.invalidOpcode s.cpu.pc op)

end Sys2Proof.Machine
end

