-- ==== Sys2Proof/Machine/Operands.lean ====
section
/-! DEFINITION. The operand forms: registers and the byte at HL (R92), immediates (R98), the register pairs of the two
pair tables (R93), and the conditions (R94, R200). -/

namespace Sys2Proof.Machine

/-- The seven registers of the operand code of R92 (code 6 is no register). -/
inductive Reg8 where
  | b | c | d | e | h | l | a
deriving DecidableEq, Repr

/-- An 8-bit operand that can be read and written: a register or the byte at HL (code 6 of R92). -/
inductive Place8 where
  | reg (r : Reg8)
  | atHl
deriving DecidableEq, Repr

/-- An 8-bit source operand: a register, the byte at HL, or an immediate byte (R148). -/
inductive Src8 where
  | reg (r : Reg8)
  | atHl
  | imm (v : Byte)
deriving DecidableEq, Repr

/-- The pairs of the `rp` table (R93). -/
inductive Pair where
  | bc | de | hl | sp
deriving DecidableEq, Repr

/-- The pairs of the `rp2` table (R93), of PUSH and POP. -/
inductive StackPair where
  | bc | de | hl | af
deriving DecidableEq, Repr

/-- The four conditions (R94). -/
inductive Cond where
  | nz | z | nc | c
deriving DecidableEq, Repr

/-- `reg8(code)` for a register. -/
def readReg8 (r : Reg8) (s : State) : Byte :=
  match r with
  | .b => s.cpu.b
  | .c => s.cpu.c
  | .d => s.cpu.d
  | .e => s.cpu.e
  | .h => s.cpu.h
  | .l => s.cpu.l
  | .a => s.cpu.a

/-- `reg8(code) <- v` for a register. -/
def writeReg8 (r : Reg8) (v : Byte) (s : State) : State :=
  match r with
  | .b => { s with cpu.b := v }
  | .c => { s with cpu.c := v }
  | .d => { s with cpu.d := v }
  | .e => { s with cpu.e := v }
  | .h => { s with cpu.h := v }
  | .l => { s with cpu.l := v }
  | .a => { s with cpu.a := v }

/-- HL as an address (R21). -/
def hlAddr (s : State) : Word := word16 s.cpu.h s.cpu.l

/-- `reg16(p)`: the word of a pair or SP (R21, R93). -/
def readPair (p : Pair) (s : State) : Word :=
  match p with
  | .bc => word16 s.cpu.b s.cpu.c
  | .de => word16 s.cpu.d s.cpu.e
  | .hl => hlAddr s
  | .sp => s.cpu.sp

/-- `reg16(p) <- v`: the high register takes `v[15:8]`, the low one `v[7:0]` (R21). -/
def writePair (p : Pair) (v : Word) (s : State) : State :=
  match p with
  | .bc => { s with cpu.b := hiByte v, cpu.c := loByte v }
  | .de => { s with cpu.d := hiByte v, cpu.e := loByte v }
  | .hl => { s with cpu.h := hiByte v, cpu.l := loByte v }
  | .sp => setSp v s

/-- The word PUSH stores: the pair, or `{A, F}` (R142). -/
def readStackPair (p : StackPair) (s : State) : Word :=
  match p with
  | .bc => readPair .bc s
  | .de => readPair .de s
  | .hl => readPair .hl s
  | .af => word16 s.cpu.a s.cpu.f

/-- The pair POP writes; of F only bits 7:4 are taken, bits 3:0 become 0 (R24, R143). -/
def writeStackPair (p : StackPair) (v : Word) (s : State) : State :=
  match p with
  | .bc => writePair .bc v s
  | .de => writePair .de v s
  | .hl => writePair .hl v s
  | .af => { s with cpu.a := hiByte v, cpu.f := v.extractLsb' 4 4 ++ 0#4 }

/-- Reads a source operand. The byte at HL is one bus read (R92, R148). -/
def readSrc8 (x : Src8) (s : State) : Byte × State :=
  match x with
  | .reg r => (readReg8 r s, s)
  | .atHl => memRead (hlAddr s) s
  | .imm v => (v, s)

/-- Reads a register or the byte at HL (`reg8(code)`, R92). -/
def readPlace8 (x : Place8) (s : State) : Byte × State :=
  match x with
  | .reg r => (readReg8 r s, s)
  | .atHl => memRead (hlAddr s) s

/-- Writes a register or the byte at HL (`reg8(code) <- v`, R92). -/
def writePlace8 (x : Place8) (v : Byte) (s : State) : State :=
  match x with
  | .reg r => writeReg8 r v s
  | .atHl => memWrite (hlAddr s) v s

/-- The high-page address `0xFF00 + zext_16(x)` of LDH and LD (C) (R98). -/
def highPage (x : Byte) : Word := 0xFF00 + zext16 x

end Sys2Proof.Machine
end

