-- ==== Sys2Proof/Machine/Flags.lean ====
section
/-! DEFINITION. The flags of F (R23), the conditions over them (R200), and every flag computation of the spec: the
8-bit ALU (R149 to R159), DAA (R160), the 16-bit additions (R172, R173) and the rotates and shifts (R180 to R191). The
computations are functions of values; the instructions write their results. -/

namespace Sys2Proof.Machine

/-! ## The flag register -/

/-- Z, bit 7 of F (R23). -/
def flagZ (s : State) : Bool := s.cpu.f.getLsbD 7

/-- N, bit 6 of F (R23). -/
def flagN (s : State) : Bool := s.cpu.f.getLsbD 6

/-- Hf, bit 5 of F (R23). -/
def flagH (s : State) : Bool := s.cpu.f.getLsbD 5

/-- Cf, bit 4 of F (R23). -/
def flagC (s : State) : Bool := s.cpu.f.getLsbD 4

/-- One entry of a rule's flag line: the flag's new value, or none for `-` (unchanged). -/
def putFlag (i : Nat) (v : Option Bool) (f : Byte) : Byte :=
  match v with
  | none => f
  | some v => putBit i v f

/-- Writes the flags of a rule's flag line `Z N H C` (R12 item 5); none is `-`. A write of single flags keeps the other
bits of F (R24). -/
def writeFlags (z n h c : Option Bool) (s : State) : State :=
  { s with cpu.f := putFlag 7 z (putFlag 6 n (putFlag 5 h (putFlag 4 c s.cpu.f))) }

/-- F put together from its four flags and its low nibble (R23). -/
def flagByte (z n h c : Bool) (low : BitVec 4) : Byte :=
  BitVec.ofBool z ++ BitVec.ofBool n ++ BitVec.ofBool h ++ BitVec.ofBool c ++ low

/-- Bits 3:0 of F, always 0 in a legal state (R24). -/
def flagLow (s : State) : BitVec 4 := s.cpu.f.extractLsb' 0 4

/-- `cond(cc)` (R200). -/
def condHolds (cc : Cond) (s : State) : Bool :=
  match cc with
  | .nz => !flagZ s
  | .z => flagZ s
  | .nc => !flagC s
  | .c => flagC s

/-! ## 8-bit arithmetic and logic -/

/-- A result byte with the four flags. -/
structure AluOut where
  r : Byte
  z : Bool
  n : Bool
  h : Bool
  c : Bool
deriving DecidableEq, Repr

/-- `a + v + cin` with its flags (R149, R150, R151). -/
def addOut (a v : Byte) (cin : Bool) : AluOut :=
  let t := a.toNat + v.toNat + cin.toNat
  let r := BitVec.ofNat 8 t
  { r := r, z := r == 0, n := false
    h := decide (lowNibble a + lowNibble v + cin.toNat > 0xF), c := decide (t > 0xFF) }

/-- `a - v - cin` with its flags (R149, R152, R153). -/
def subOut (a v : Byte) (cin : Bool) : AluOut :=
  let r := a - v - BitVec.ofNat 8 cin.toNat
  { r := r, z := r == 0, n := true
    h := decide (lowNibble a < lowNibble v + cin.toNat), c := decide (a.toNat < v.toNat + cin.toNat) }

/-- `a & v` with its flags: `Z 0 1 0` (R154). -/
def andOut (a v : Byte) : AluOut := { r := a &&& v, z := (a &&& v) == 0, n := false, h := true, c := false }

/-- `a ^ v` with its flags: `Z 0 0 0` (R155). -/
def xorOut (a v : Byte) : AluOut := { r := a ^^^ v, z := (a ^^^ v) == 0, n := false, h := false, c := false }

/-- `a | v` with its flags: `Z 0 0 0` (R156). -/
def orOut (a v : Byte) : AluOut := { r := a ||| v, z := (a ||| v) == 0, n := false, h := false, c := false }

/-- `v + 1` with Z, N and Hf (R158); the carry is not written by INC. -/
def incOut (v : Byte) : AluOut :=
  { r := v + 1, z := (v + 1) == 0, n := false, h := lowNibble v == 0xF, c := false }

/-- `v - 1` with Z, N and Hf (R159); the carry is not written by DEC. -/
def decOut (v : Byte) : AluOut :=
  { r := v - 1, z := (v - 1) == 0, n := true, h := lowNibble v == 0x0, c := false }

/-- DAA (R160): the adjusted byte and the new carry. -/
def daaOut (a : Byte) (n h c : Bool) : Byte × Bool :=
  if n then
    let a1 := if c then a - 0x60 else a
    (if h then a1 - 0x06 else a1, c)
  else
    let hi := c || decide (a.toNat > 0x99)
    let a1 := if hi then a + 0x60 else a
    (if h || decide (lowNibble a1 > 9) then a1 + 0x06 else a1, hi)

/-! ## 16-bit additions -/

/-- `hl + v` with Hf from bit 11 and Cf from bit 15 (R172). -/
def addHlOut (hl v : Word) : Word × Bool × Bool :=
  (hl + v, decide (hl.toNat % 0x1000 + v.toNat % 0x1000 > 0xFFF), decide (hl.toNat + v.toNat > 0xFFFF))

/-- `sp + sext_16(e8)` with Hf and Cf of the unsigned addition of the low bytes (R173, R174). -/
def addSpOut (sp : Word) (e8 : Byte) : Word × Bool × Bool :=
  (sp + sext16 e8, decide (sp.toNat % 0x10 + e8.toNat % 0x10 > 0xF),
    decide (sp.toNat % 0x100 + e8.toNat > 0xFF))

/-! ## Rotates and shifts -/

/-- The eight operations of CB block 0, in the order of their codes (R96). -/
inductive RotOp where
  | rlc | rrc | rl | rr | sla | sra | swap | srl
deriving DecidableEq, Repr

/-- `f(v, Cf)` of R179: the result and the carry out (R184 to R191; the accumulator forms of R180 to R183 are the first
four). -/
def rotate (op : RotOp) (v : Byte) (c : Bool) : Byte × Bool :=
  let b7 := v.getLsbD 7
  let b0 := v.getLsbD 0
  match op with
  | .rlc => (v.extractLsb' 0 7 ++ BitVec.ofBool b7, b7)
  | .rrc => (BitVec.ofBool b0 ++ v.extractLsb' 1 7, b0)
  | .rl => (v.extractLsb' 0 7 ++ BitVec.ofBool c, b7)
  | .rr => (BitVec.ofBool c ++ v.extractLsb' 1 7, b0)
  | .sla => (v.extractLsb' 0 7 ++ BitVec.ofBool false, b7)
  | .sra => (BitVec.ofBool b7 ++ v.extractLsb' 1 7, b0)
  | .swap => (v.extractLsb' 0 4 ++ v.extractLsb' 4 4, false)
  | .srl => (BitVec.ofBool false ++ v.extractLsb' 1 7, b0)

end Sys2Proof.Machine
end

