-- ==== Sys2Proof/Machine/Alu16.lean ====
section
/-! DEFINITION. 16-bit arithmetic (`spec/42_alu16.md`, R170 to R174): the shared operations, then one meaning per
instruction. -/

namespace Sys2Proof.Machine

/-! ## Shared operations -/

/-- `reg16(p) <- reg16(p) + 1`, no flag written (R170). -/
def opIncPair (p : Pair) (s : State) : State := setCycles 8 (writePair p (readPair p s + 1) s)

/-- `reg16(p) <- reg16(p) - 1`, no flag written (R171). -/
def opDecPair (p : Pair) (s : State) : State := setCycles 8 (writePair p (readPair p s - 1) s)

/-- ADD HL,rr: flags `- 0 H C` (R172). -/
def opAddHl (p : Pair) (s : State) : State :=
  let (r, h, c) := addHlOut (hlAddr s) (readPair p s)
  setCycles 8 (writeFlags none (some false) (some h) (some c) (writePair .hl r s))

/-- ADD SP,e8: flags `0 0 H C` (R173). -/
def opAddSp (e8 : Byte) (s : State) : State :=
  let (r, h, c) := addSpOut s.cpu.sp e8
  setCycles 16 (writeFlags (some false) (some false) (some h) (some c) (setSp r s))

/-- LD HL,SP+e8: flags `0 0 H C`, SP unchanged (R174). -/
def opLdHlSp (e8 : Byte) (s : State) : State :=
  let (r, h, c) := addSpOut s.cpu.sp e8
  setCycles 12 (writeFlags (some false) (some false) (some h) (some c) (writePair .hl r s))

/-! ## The meanings -/

/-- 03 `INC BC` (R170). -/
def exec_inc_bc (s : State) : Result := .next (opIncPair .bc s)

/-- 09 `ADD HL,BC` (R172). -/
def exec_add_hl_bc (s : State) : Result := .next (opAddHl .bc s)

/-- 0B `DEC BC` (R171). -/
def exec_dec_bc (s : State) : Result := .next (opDecPair .bc s)

/-- 13 `INC DE` (R170). -/
def exec_inc_de (s : State) : Result := .next (opIncPair .de s)

/-- 19 `ADD HL,DE` (R172). -/
def exec_add_hl_de (s : State) : Result := .next (opAddHl .de s)

/-- 1B `DEC DE` (R171). -/
def exec_dec_de (s : State) : Result := .next (opDecPair .de s)

/-- 23 `INC HL` (R170). -/
def exec_inc_hl (s : State) : Result := .next (opIncPair .hl s)

/-- 29 `ADD HL,HL` (R172). -/
def exec_add_hl_hl (s : State) : Result := .next (opAddHl .hl s)

/-- 2B `DEC HL` (R171). -/
def exec_dec_hl (s : State) : Result := .next (opDecPair .hl s)

/-- 33 `INC SP` (R170). -/
def exec_inc_sp (s : State) : Result := .next (opIncPair .sp s)

/-- 39 `ADD HL,SP` (R172). -/
def exec_add_hl_sp (s : State) : Result := .next (opAddHl .sp s)

/-- 3B `DEC SP` (R171). -/
def exec_dec_sp (s : State) : Result := .next (opDecPair .sp s)

/-- E8 `ADD SP,e8` (R173). -/
def exec_add_sp_e8 (e8 : Byte) (s : State) : Result := .next (opAddSp e8 s)

/-- F8 `LD HL,SP+e8` (R174). -/
def exec_ld_hl_spE8 (e8 : Byte) (s : State) : Result := .next (opLdHlSp e8 s)

end Sys2Proof.Machine
end

