-- ==== Sys2Proof/Machine/Alu8.lean ====
section
/-! DEFINITION. 8-bit arithmetic and logic (`spec/41_alu8.md`, R148 to R163): the shared operations, then one meaning per
instruction. -/

namespace Sys2Proof.Machine

/-! ## Shared operations -/

/-- The eight ALU operations in the order of their codes (R95). -/
inductive AluOp where
  | add | adc | sub | sbc | and | xor | or | cp
deriving DecidableEq, Repr

/-- Result and flags of an ALU operation on A, an operand and the carry (R150 to R157). CP is SUB; that it keeps A is
`opAlu`'s affair. -/
def aluOut (op : AluOp) (a v : Byte) (c : Bool) : AluOut :=
  match op with
  | .add => addOut a v false
  | .adc => addOut a v c
  | .sub => subOut a v false
  | .sbc => subOut a v c
  | .and => andOut a v
  | .xor => xorOut a v
  | .or => orOut a v
  | .cp => subOut a v false

/-- The cost of an ALU operation by the form of its operand (R148). -/
def aluCycles (src : Src8) : Nat :=
  match src with
  | .reg _ => 4
  | .atHl => 8
  | .imm _ => 8

/-- The operation writes A, all but CP (R157). -/
def AluOp.writesA (op : AluOp) : Bool :=
  match op with
  | .cp => false
  | .add | .adc | .sub | .sbc | .and | .xor | .or => true

/-- An ALU operation on A and an operand (R148): reads the operand once, writes A (but for CP) and the four flags. -/
def opAlu (op : AluOp) (src : Src8) (s : State) : State :=
  let (v, s1) := readSrc8 src s
  let o := aluOut op s1.cpu.a v (flagC s1)
  let s2 := if op.writesA then writeReg8 .a o.r s1 else s1
  setCycles (aluCycles src) (writeFlags (some o.z) (some o.n) (some o.h) (some o.c) s2)

/-- The cost of INC and DEC by the form of the operand (R158, R159). -/
def incDecCycles (x : Place8) : Nat :=
  match x with
  | .reg _ => 4
  | .atHl => 12

/-- INC of an 8-bit operand: flags `Z 0 H -` (R158). -/
def opInc (x : Place8) (s : State) : State :=
  let (v, s1) := readPlace8 x s
  let o := incOut v
  setCycles (incDecCycles x) (writeFlags (some o.z) (some o.n) (some o.h) none (writePlace8 x o.r s1))

/-- DEC of an 8-bit operand: flags `Z 1 H -` (R159). -/
def opDec (x : Place8) (s : State) : State :=
  let (v, s1) := readPlace8 x s
  let o := decOut v
  setCycles (incDecCycles x) (writeFlags (some o.z) (some o.n) (some o.h) none (writePlace8 x o.r s1))

/-- DAA: flags `Z - 0 C` (R160). -/
def opDaa (s : State) : State :=
  let (a, c) := daaOut s.cpu.a (flagN s) (flagH s) (flagC s)
  setCycles 4 (writeFlags (some (a == 0)) none (some false) (some c) (writeReg8 .a a s))

/-- CPL: flags `- 1 1 -` (R161). -/
def opCpl (s : State) : State :=
  setCycles 4 (writeFlags none (some true) (some true) none (writeReg8 .a (s.cpu.a ^^^ 0xFF) s))

/-- SCF: flags `- 0 0 1` (R162). -/
def opScf (s : State) : State := setCycles 4 (writeFlags none (some false) (some false) (some true) s)

/-- CCF: flags `- 0 0 C` (R163). -/
def opCcf (s : State) : State := setCycles 4 (writeFlags none (some false) (some false) (some (!flagC s)) s)

/-! ## The meanings -/

/-- 04 `INC B` (R158). -/
def exec_inc_b (s : State) : Result := .next (opInc (.reg .b) s)

/-- 05 `DEC B` (R159). -/
def exec_dec_b (s : State) : Result := .next (opDec (.reg .b) s)

/-- 0C `INC C` (R158). -/
def exec_inc_c (s : State) : Result := .next (opInc (.reg .c) s)

/-- 0D `DEC C` (R159). -/
def exec_dec_c (s : State) : Result := .next (opDec (.reg .c) s)

/-- 14 `INC D` (R158). -/
def exec_inc_d (s : State) : Result := .next (opInc (.reg .d) s)

/-- 15 `DEC D` (R159). -/
def exec_dec_d (s : State) : Result := .next (opDec (.reg .d) s)

/-- 1C `INC E` (R158). -/
def exec_inc_e (s : State) : Result := .next (opInc (.reg .e) s)

/-- 1D `DEC E` (R159). -/
def exec_dec_e (s : State) : Result := .next (opDec (.reg .e) s)

/-- 24 `INC H` (R158). -/
def exec_inc_h (s : State) : Result := .next (opInc (.reg .h) s)

/-- 25 `DEC H` (R159). -/
def exec_dec_h (s : State) : Result := .next (opDec (.reg .h) s)

/-- 27 `DAA` (R160). -/
def exec_daa (s : State) : Result := .next (opDaa s)

/-- 2C `INC L` (R158). -/
def exec_inc_l (s : State) : Result := .next (opInc (.reg .l) s)

/-- 2D `DEC L` (R159). -/
def exec_dec_l (s : State) : Result := .next (opDec (.reg .l) s)

/-- 2F `CPL` (R161). -/
def exec_cpl (s : State) : Result := .next (opCpl s)

/-- 34 `INC (HL)` (R158). -/
def exec_inc_atHl (s : State) : Result := .next (opInc .atHl s)

/-- 35 `DEC (HL)` (R159). -/
def exec_dec_atHl (s : State) : Result := .next (opDec .atHl s)

/-- 37 `SCF` (R162). -/
def exec_scf (s : State) : Result := .next (opScf s)

/-- 3C `INC A` (R158). -/
def exec_inc_a (s : State) : Result := .next (opInc (.reg .a) s)

/-- 3D `DEC A` (R159). -/
def exec_dec_a (s : State) : Result := .next (opDec (.reg .a) s)

/-- 3F `CCF` (R163). -/
def exec_ccf (s : State) : Result := .next (opCcf s)

/-- 80 `ADD A,B` (R150). -/
def exec_add_a_b (s : State) : Result := .next (opAlu .add (.reg .b) s)

/-- 81 `ADD A,C` (R150). -/
def exec_add_a_c (s : State) : Result := .next (opAlu .add (.reg .c) s)

/-- 82 `ADD A,D` (R150). -/
def exec_add_a_d (s : State) : Result := .next (opAlu .add (.reg .d) s)

/-- 83 `ADD A,E` (R150). -/
def exec_add_a_e (s : State) : Result := .next (opAlu .add (.reg .e) s)

/-- 84 `ADD A,H` (R150). -/
def exec_add_a_h (s : State) : Result := .next (opAlu .add (.reg .h) s)

/-- 85 `ADD A,L` (R150). -/
def exec_add_a_l (s : State) : Result := .next (opAlu .add (.reg .l) s)

/-- 86 `ADD A,(HL)` (R150). -/
def exec_add_a_atHl (s : State) : Result := .next (opAlu .add .atHl s)

/-- 87 `ADD A,A` (R150). -/
def exec_add_a_a (s : State) : Result := .next (opAlu .add (.reg .a) s)

/-- 88 `ADC A,B` (R151). -/
def exec_adc_a_b (s : State) : Result := .next (opAlu .adc (.reg .b) s)

/-- 89 `ADC A,C` (R151). -/
def exec_adc_a_c (s : State) : Result := .next (opAlu .adc (.reg .c) s)

/-- 8A `ADC A,D` (R151). -/
def exec_adc_a_d (s : State) : Result := .next (opAlu .adc (.reg .d) s)

/-- 8B `ADC A,E` (R151). -/
def exec_adc_a_e (s : State) : Result := .next (opAlu .adc (.reg .e) s)

/-- 8C `ADC A,H` (R151). -/
def exec_adc_a_h (s : State) : Result := .next (opAlu .adc (.reg .h) s)

/-- 8D `ADC A,L` (R151). -/
def exec_adc_a_l (s : State) : Result := .next (opAlu .adc (.reg .l) s)

/-- 8E `ADC A,(HL)` (R151). -/
def exec_adc_a_atHl (s : State) : Result := .next (opAlu .adc .atHl s)

/-- 8F `ADC A,A` (R151). -/
def exec_adc_a_a (s : State) : Result := .next (opAlu .adc (.reg .a) s)

/-- 90 `SUB B` (R152). -/
def exec_sub_b (s : State) : Result := .next (opAlu .sub (.reg .b) s)

/-- 91 `SUB C` (R152). -/
def exec_sub_c (s : State) : Result := .next (opAlu .sub (.reg .c) s)

/-- 92 `SUB D` (R152). -/
def exec_sub_d (s : State) : Result := .next (opAlu .sub (.reg .d) s)

/-- 93 `SUB E` (R152). -/
def exec_sub_e (s : State) : Result := .next (opAlu .sub (.reg .e) s)

/-- 94 `SUB H` (R152). -/
def exec_sub_h (s : State) : Result := .next (opAlu .sub (.reg .h) s)

/-- 95 `SUB L` (R152). -/
def exec_sub_l (s : State) : Result := .next (opAlu .sub (.reg .l) s)

/-- 96 `SUB (HL)` (R152). -/
def exec_sub_atHl (s : State) : Result := .next (opAlu .sub .atHl s)

/-- 97 `SUB A` (R152). -/
def exec_sub_a (s : State) : Result := .next (opAlu .sub (.reg .a) s)

/-- 98 `SBC A,B` (R153). -/
def exec_sbc_a_b (s : State) : Result := .next (opAlu .sbc (.reg .b) s)

/-- 99 `SBC A,C` (R153). -/
def exec_sbc_a_c (s : State) : Result := .next (opAlu .sbc (.reg .c) s)

/-- 9A `SBC A,D` (R153). -/
def exec_sbc_a_d (s : State) : Result := .next (opAlu .sbc (.reg .d) s)

/-- 9B `SBC A,E` (R153). -/
def exec_sbc_a_e (s : State) : Result := .next (opAlu .sbc (.reg .e) s)

/-- 9C `SBC A,H` (R153). -/
def exec_sbc_a_h (s : State) : Result := .next (opAlu .sbc (.reg .h) s)

/-- 9D `SBC A,L` (R153). -/
def exec_sbc_a_l (s : State) : Result := .next (opAlu .sbc (.reg .l) s)

/-- 9E `SBC A,(HL)` (R153). -/
def exec_sbc_a_atHl (s : State) : Result := .next (opAlu .sbc .atHl s)

/-- 9F `SBC A,A` (R153). -/
def exec_sbc_a_a (s : State) : Result := .next (opAlu .sbc (.reg .a) s)

/-- A0 `AND B` (R154). -/
def exec_and_b (s : State) : Result := .next (opAlu .and (.reg .b) s)

/-- A1 `AND C` (R154). -/
def exec_and_c (s : State) : Result := .next (opAlu .and (.reg .c) s)

/-- A2 `AND D` (R154). -/
def exec_and_d (s : State) : Result := .next (opAlu .and (.reg .d) s)

/-- A3 `AND E` (R154). -/
def exec_and_e (s : State) : Result := .next (opAlu .and (.reg .e) s)

/-- A4 `AND H` (R154). -/
def exec_and_h (s : State) : Result := .next (opAlu .and (.reg .h) s)

/-- A5 `AND L` (R154). -/
def exec_and_l (s : State) : Result := .next (opAlu .and (.reg .l) s)

/-- A6 `AND (HL)` (R154). -/
def exec_and_atHl (s : State) : Result := .next (opAlu .and .atHl s)

/-- A7 `AND A` (R154). -/
def exec_and_a (s : State) : Result := .next (opAlu .and (.reg .a) s)

/-- A8 `XOR B` (R155). -/
def exec_xor_b (s : State) : Result := .next (opAlu .xor (.reg .b) s)

/-- A9 `XOR C` (R155). -/
def exec_xor_c (s : State) : Result := .next (opAlu .xor (.reg .c) s)

/-- AA `XOR D` (R155). -/
def exec_xor_d (s : State) : Result := .next (opAlu .xor (.reg .d) s)

/-- AB `XOR E` (R155). -/
def exec_xor_e (s : State) : Result := .next (opAlu .xor (.reg .e) s)

/-- AC `XOR H` (R155). -/
def exec_xor_h (s : State) : Result := .next (opAlu .xor (.reg .h) s)

/-- AD `XOR L` (R155). -/
def exec_xor_l (s : State) : Result := .next (opAlu .xor (.reg .l) s)

/-- AE `XOR (HL)` (R155). -/
def exec_xor_atHl (s : State) : Result := .next (opAlu .xor .atHl s)

/-- AF `XOR A` (R155). -/
def exec_xor_a (s : State) : Result := .next (opAlu .xor (.reg .a) s)

/-- B0 `OR B` (R156). -/
def exec_or_b (s : State) : Result := .next (opAlu .or (.reg .b) s)

/-- B1 `OR C` (R156). -/
def exec_or_c (s : State) : Result := .next (opAlu .or (.reg .c) s)

/-- B2 `OR D` (R156). -/
def exec_or_d (s : State) : Result := .next (opAlu .or (.reg .d) s)

/-- B3 `OR E` (R156). -/
def exec_or_e (s : State) : Result := .next (opAlu .or (.reg .e) s)

/-- B4 `OR H` (R156). -/
def exec_or_h (s : State) : Result := .next (opAlu .or (.reg .h) s)

/-- B5 `OR L` (R156). -/
def exec_or_l (s : State) : Result := .next (opAlu .or (.reg .l) s)

/-- B6 `OR (HL)` (R156). -/
def exec_or_atHl (s : State) : Result := .next (opAlu .or .atHl s)

/-- B7 `OR A` (R156). -/
def exec_or_a (s : State) : Result := .next (opAlu .or (.reg .a) s)

/-- B8 `CP B` (R157). -/
def exec_cp_b (s : State) : Result := .next (opAlu .cp (.reg .b) s)

/-- B9 `CP C` (R157). -/
def exec_cp_c (s : State) : Result := .next (opAlu .cp (.reg .c) s)

/-- BA `CP D` (R157). -/
def exec_cp_d (s : State) : Result := .next (opAlu .cp (.reg .d) s)

/-- BB `CP E` (R157). -/
def exec_cp_e (s : State) : Result := .next (opAlu .cp (.reg .e) s)

/-- BC `CP H` (R157). -/
def exec_cp_h (s : State) : Result := .next (opAlu .cp (.reg .h) s)

/-- BD `CP L` (R157). -/
def exec_cp_l (s : State) : Result := .next (opAlu .cp (.reg .l) s)

/-- BE `CP (HL)` (R157). -/
def exec_cp_atHl (s : State) : Result := .next (opAlu .cp .atHl s)

/-- BF `CP A` (R157). -/
def exec_cp_a (s : State) : Result := .next (opAlu .cp (.reg .a) s)

/-- C6 `ADD A,d8` (R150). -/
def exec_add_a_d8 (d8 : Byte) (s : State) : Result := .next (opAlu .add (.imm d8) s)

/-- CE `ADC A,d8` (R151). -/
def exec_adc_a_d8 (d8 : Byte) (s : State) : Result := .next (opAlu .adc (.imm d8) s)

/-- D6 `SUB d8` (R152). -/
def exec_sub_d8 (d8 : Byte) (s : State) : Result := .next (opAlu .sub (.imm d8) s)

/-- DE `SBC A,d8` (R153). -/
def exec_sbc_a_d8 (d8 : Byte) (s : State) : Result := .next (opAlu .sbc (.imm d8) s)

/-- E6 `AND d8` (R154). -/
def exec_and_d8 (d8 : Byte) (s : State) : Result := .next (opAlu .and (.imm d8) s)

/-- EE `XOR d8` (R155). -/
def exec_xor_d8 (d8 : Byte) (s : State) : Result := .next (opAlu .xor (.imm d8) s)

/-- F6 `OR d8` (R156). -/
def exec_or_d8 (d8 : Byte) (s : State) : Result := .next (opAlu .or (.imm d8) s)

/-- FE `CP d8` (R157). -/
def exec_cp_d8 (d8 : Byte) (s : State) : Result := .next (opAlu .cp (.imm d8) s)

end Sys2Proof.Machine
end

