-- ==== Sys2Proof/Machine/Control.lean ====
section
/-! DEFINITION. Control transfer (`spec/44_control.md`, R200 to R212): the shared operations, then one meaning per
instruction. PC is the address after the instruction when a meaning runs (R97), so it is the return address of a call and
the base of a relative jump. -/

namespace Sys2Proof.Machine

/-! ## Shared operations -/

/-- `PC <- a16` (R201). -/
def opJp (a16 : Word) (s : State) : State := setCycles 16 (setPc a16 s)

/-- The cost of a taken JP cc (R202): 16, or 24 in the `doc_literal` profile (R310). -/
def jpTakenCycles (cfg : Config) : Nat :=
  match cfg.timing with
  | .standard => 16
  | .docLiteral => 24

/-- JP cc,a16 (R202). -/
def opJpCc (cc : Cond) (a16 : Word) (s : State) : State :=
  if condHolds cc s then setCycles (jpTakenCycles s.env.cfg) (setPc a16 s) else setCycles 12 s

/-- `PC <- HL`; memory is not read (R203). -/
def opJpHl (s : State) : State := setCycles 4 (setPc (hlAddr s) s)

/-- `PC <- PC + sext_16(e8)` (R204). -/
def opJr (e8 : Byte) (s : State) : State := setCycles 12 (setPc (s.cpu.pc + sext16 e8) s)

/-- JR cc,e8 (R205). -/
def opJrCc (cc : Cond) (e8 : Byte) (s : State) : State :=
  if condHolds cc s then setCycles 12 (setPc (s.cpu.pc + sext16 e8) s) else setCycles 8 s

/-- `push16(PC); PC <- target`, the common part of CALL and RST (R206, R211). -/
def callTo (target : Word) (s : State) : State := setPc target (push16 s.cpu.pc s)

/-- CALL a16 (R206). -/
def opCall (a16 : Word) (s : State) : State := setCycles 24 (callTo a16 s)

/-- CALL cc,a16 (R207). -/
def opCallCc (cc : Cond) (a16 : Word) (s : State) : State :=
  if condHolds cc s then setCycles 24 (callTo a16 s) else setCycles 12 s

/-- `PC <- pop16()`, the common part of RET and RET cc (R208, R209). -/
def returnTo (s : State) : State :=
  let (v, s1) := pop16 s
  setPc v s1

/-- RET (R208). -/
def opRet (s : State) : State := setCycles 16 (returnTo s)

/-- RET cc (R209). -/
def opRetCc (cc : Cond) (s : State) : State :=
  if condHolds cc s then setCycles 20 (returnTo s) else setCycles 8 s

/-- RETI (R210). -/
def opReti (s : State) : State := setCycles 16 (returnFromInterrupt s)

/-- RST 8*y (R211). -/
def opRst (y : Nat) (s : State) : State := setCycles 16 (callTo (BitVec.ofNat 16 (8 * y)) s)

/-! ## The meanings -/

/-- 18 `JR e8` (R204). -/
def exec_jr_e8 (e8 : Byte) (s : State) : Result := .next (opJr e8 s)

/-- 20 `JR NZ,e8` (R205). -/
def exec_jr_nz_e8 (e8 : Byte) (s : State) : Result := .next (opJrCc .nz e8 s)

/-- 28 `JR Z,e8` (R205). -/
def exec_jr_z_e8 (e8 : Byte) (s : State) : Result := .next (opJrCc .z e8 s)

/-- 30 `JR NC,e8` (R205). -/
def exec_jr_nc_e8 (e8 : Byte) (s : State) : Result := .next (opJrCc .nc e8 s)

/-- 38 `JR C,e8` (R205). -/
def exec_jr_c_e8 (e8 : Byte) (s : State) : Result := .next (opJrCc .c e8 s)

/-- C0 `RET NZ` (R209). -/
def exec_ret_nz (s : State) : Result := .next (opRetCc .nz s)

/-- C2 `JP NZ,a16` (R202). -/
def exec_jp_nz_a16 (a16 : Word) (s : State) : Result := .next (opJpCc .nz a16 s)

/-- C3 `JP a16` (R201). -/
def exec_jp_a16 (a16 : Word) (s : State) : Result := .next (opJp a16 s)

/-- C4 `CALL NZ,a16` (R207). -/
def exec_call_nz_a16 (a16 : Word) (s : State) : Result := .next (opCallCc .nz a16 s)

/-- C7 `RST 00H` (R211). -/
def exec_rst_00 (s : State) : Result := .next (opRst 0 s)

/-- C8 `RET Z` (R209). -/
def exec_ret_z (s : State) : Result := .next (opRetCc .z s)

/-- C9 `RET` (R208). -/
def exec_ret (s : State) : Result := .next (opRet s)

/-- CA `JP Z,a16` (R202). -/
def exec_jp_z_a16 (a16 : Word) (s : State) : Result := .next (opJpCc .z a16 s)

/-- CC `CALL Z,a16` (R207). -/
def exec_call_z_a16 (a16 : Word) (s : State) : Result := .next (opCallCc .z a16 s)

/-- CD `CALL a16` (R206). -/
def exec_call_a16 (a16 : Word) (s : State) : Result := .next (opCall a16 s)

/-- CF `RST 08H` (R211). -/
def exec_rst_08 (s : State) : Result := .next (opRst 1 s)

/-- D0 `RET NC` (R209). -/
def exec_ret_nc (s : State) : Result := .next (opRetCc .nc s)

/-- D2 `JP NC,a16` (R202). -/
def exec_jp_nc_a16 (a16 : Word) (s : State) : Result := .next (opJpCc .nc a16 s)

/-- D4 `CALL NC,a16` (R207). -/
def exec_call_nc_a16 (a16 : Word) (s : State) : Result := .next (opCallCc .nc a16 s)

/-- D7 `RST 10H` (R211). -/
def exec_rst_10 (s : State) : Result := .next (opRst 2 s)

/-- D8 `RET C` (R209). -/
def exec_ret_c (s : State) : Result := .next (opRetCc .c s)

/-- D9 `RETI` (R210). -/
def exec_reti (s : State) : Result := .next (opReti s)

/-- DA `JP C,a16` (R202). -/
def exec_jp_c_a16 (a16 : Word) (s : State) : Result := .next (opJpCc .c a16 s)

/-- DC `CALL C,a16` (R207). -/
def exec_call_c_a16 (a16 : Word) (s : State) : Result := .next (opCallCc .c a16 s)

/-- DF `RST 18H` (R211). -/
def exec_rst_18 (s : State) : Result := .next (opRst 3 s)

/-- E7 `RST 20H` (R211). -/
def exec_rst_20 (s : State) : Result := .next (opRst 4 s)

/-- E9 `JP HL` (R203). -/
def exec_jp_hl (s : State) : Result := .next (opJpHl s)

/-- EF `RST 28H` (R211). -/
def exec_rst_28 (s : State) : Result := .next (opRst 5 s)

/-- F7 `RST 30H` (R211). -/
def exec_rst_30 (s : State) : Result := .next (opRst 6 s)

/-- FF `RST 38H` (R211). -/
def exec_rst_38 (s : State) : Result := .next (opRst 7 s)

end Sys2Proof.Machine
end

