-- ==== Sys2Proof/Machine/Load.lean ====
section
/-! DEFINITION. Loads, stores and stack operations (`spec/40_load.md`, R120 to R143): the shared operations, then one
meaning per instruction. PC already points past the instruction (R97). -/

namespace Sys2Proof.Machine

/-! ## Shared operations -/

/-- `dst <- src` (R120 to R124). The source is read, with HL as it stands, before the destination is written. -/
def opLd8 (dst : Place8) (src : Src8) (cost : Nat) (s : State) : State :=
  let (v, s1) := readSrc8 src s
  setCycles cost (writePlace8 dst v s1)

/-- `A <- MemRead(addr, 1)` (R125, R127, R128, R131, R133, R135). -/
def opLoadA (addr : Word) (cost : Nat) (s : State) : State :=
  let (v, s1) := memRead addr s
  setCycles cost (writeReg8 .a v s1)

/-- `MemWrite(addr, 1, A)` (R126, R129, R130, R132, R134, R136). -/
def opStoreA (addr : Word) (cost : Nat) (s : State) : State :=
  setCycles cost (memWrite addr s.cpu.a s)

/-- `HL <- HL + d`, the step after an access at (HL+) or (HL-) (R127 to R130). -/
def bumpHl (d : Word) (s : State) : State := writePair .hl (hlAddr s + d) s

/-- `reg16(p) <- d16` (R137). -/
def opLdPair (p : Pair) (d16 : Word) (s : State) : State := setCycles 12 (writePair p d16 s)

/-- `MemWrite(a16, 1, SP[7:0]); MemWrite(a16 + 1, 1, SP[15:8])` (R138). -/
def opStoreSp (a16 : Word) (s : State) : State :=
  setCycles 20 (memWrite (a16 + 1) (hiByte s.cpu.sp) (memWrite a16 (loByte s.cpu.sp) s))

/-- `SP <- HL` (R139). -/
def opLdSpHl (s : State) : State := setCycles 8 (setSp (hlAddr s) s)

/-- `push16(reg16_rp2(p))` (R142). -/
def opPush (p : StackPair) (s : State) : State := setCycles 16 (push16 (readStackPair p s) s)

/-- The cost of POP (R143): 12, or 16 in the `doc_literal` profile (R310). -/
def popCycles (cfg : Config) : Nat :=
  match cfg.timing with
  | .standard => 12
  | .docLiteral => 16

/-- `reg16_rp2(p) <- pop16()`, F without its low nibble (R143). -/
def opPop (p : StackPair) (s : State) : State :=
  let (v, s1) := pop16 s
  setCycles (popCycles s.env.cfg) (writeStackPair p v s1)

/-! ## The meanings -/

/-- 01 `LD BC,d16` (R137). -/
def exec_ld_bc_d16 (d16 : Word) (s : State) : Result := .next (opLdPair .bc d16 s)

/-- 02 `LD (BC),A` (R126). -/
def exec_ld_atBc_a (s : State) : Result := .next (opStoreA (readPair .bc s) 8 s)

/-- 06 `LD B,d8` (R123). -/
def exec_ld_b_d8 (d8 : Byte) (s : State) : Result := .next (opLd8 (.reg .b) (.imm d8) 8 s)

/-- 08 `LD (a16),SP` (R138). -/
def exec_ld_atA16_sp (a16 : Word) (s : State) : Result := .next (opStoreSp a16 s)

/-- 0A `LD A,(BC)` (R125). -/
def exec_ld_a_atBc (s : State) : Result := .next (opLoadA (readPair .bc s) 8 s)

/-- 0E `LD C,d8` (R123). -/
def exec_ld_c_d8 (d8 : Byte) (s : State) : Result := .next (opLd8 (.reg .c) (.imm d8) 8 s)

/-- 11 `LD DE,d16` (R137). -/
def exec_ld_de_d16 (d16 : Word) (s : State) : Result := .next (opLdPair .de d16 s)

/-- 12 `LD (DE),A` (R126). -/
def exec_ld_atDe_a (s : State) : Result := .next (opStoreA (readPair .de s) 8 s)

/-- 16 `LD D,d8` (R123). -/
def exec_ld_d_d8 (d8 : Byte) (s : State) : Result := .next (opLd8 (.reg .d) (.imm d8) 8 s)

/-- 1A `LD A,(DE)` (R125). -/
def exec_ld_a_atDe (s : State) : Result := .next (opLoadA (readPair .de s) 8 s)

/-- 1E `LD E,d8` (R123). -/
def exec_ld_e_d8 (d8 : Byte) (s : State) : Result := .next (opLd8 (.reg .e) (.imm d8) 8 s)

/-- 21 `LD HL,d16` (R137). -/
def exec_ld_hl_d16 (d16 : Word) (s : State) : Result := .next (opLdPair .hl d16 s)

/-- 22 `LD (HL+),A` (R129). -/
def exec_ld_atHli_a (s : State) : Result := .next (bumpHl 1 (opStoreA (hlAddr s) 8 s))

/-- 26 `LD H,d8` (R123). -/
def exec_ld_h_d8 (d8 : Byte) (s : State) : Result := .next (opLd8 (.reg .h) (.imm d8) 8 s)

/-- 2A `LD A,(HL+)` (R127). -/
def exec_ld_a_atHli (s : State) : Result := .next (bumpHl 1 (opLoadA (hlAddr s) 8 s))

/-- 2E `LD L,d8` (R123). -/
def exec_ld_l_d8 (d8 : Byte) (s : State) : Result := .next (opLd8 (.reg .l) (.imm d8) 8 s)

/-- 31 `LD SP,d16` (R137). -/
def exec_ld_sp_d16 (d16 : Word) (s : State) : Result := .next (opLdPair .sp d16 s)

/-- 32 `LD (HL-),A` (R130). -/
def exec_ld_atHld_a (s : State) : Result := .next (bumpHl (-1) (opStoreA (hlAddr s) 8 s))

/-- 36 `LD (HL),d8` (R124). -/
def exec_ld_atHl_d8 (d8 : Byte) (s : State) : Result := .next (opLd8 .atHl (.imm d8) 12 s)

/-- 3A `LD A,(HL-)` (R128). -/
def exec_ld_a_atHld (s : State) : Result := .next (bumpHl (-1) (opLoadA (hlAddr s) 8 s))

/-- 3E `LD A,d8` (R123). -/
def exec_ld_a_d8 (d8 : Byte) (s : State) : Result := .next (opLd8 (.reg .a) (.imm d8) 8 s)

/-- 40 `LD B,B` (R120). -/
def exec_ld_b_b (s : State) : Result := .next (opLd8 (.reg .b) (.reg .b) 4 s)

/-- 41 `LD B,C` (R120). -/
def exec_ld_b_c (s : State) : Result := .next (opLd8 (.reg .b) (.reg .c) 4 s)

/-- 42 `LD B,D` (R120). -/
def exec_ld_b_d (s : State) : Result := .next (opLd8 (.reg .b) (.reg .d) 4 s)

/-- 43 `LD B,E` (R120). -/
def exec_ld_b_e (s : State) : Result := .next (opLd8 (.reg .b) (.reg .e) 4 s)

/-- 44 `LD B,H` (R120). -/
def exec_ld_b_h (s : State) : Result := .next (opLd8 (.reg .b) (.reg .h) 4 s)

/-- 45 `LD B,L` (R120). -/
def exec_ld_b_l (s : State) : Result := .next (opLd8 (.reg .b) (.reg .l) 4 s)

/-- 46 `LD B,(HL)` (R121). -/
def exec_ld_b_atHl (s : State) : Result := .next (opLd8 (.reg .b) .atHl 8 s)

/-- 47 `LD B,A` (R120). -/
def exec_ld_b_a (s : State) : Result := .next (opLd8 (.reg .b) (.reg .a) 4 s)

/-- 48 `LD C,B` (R120). -/
def exec_ld_c_b (s : State) : Result := .next (opLd8 (.reg .c) (.reg .b) 4 s)

/-- 49 `LD C,C` (R120). -/
def exec_ld_c_c (s : State) : Result := .next (opLd8 (.reg .c) (.reg .c) 4 s)

/-- 4A `LD C,D` (R120). -/
def exec_ld_c_d (s : State) : Result := .next (opLd8 (.reg .c) (.reg .d) 4 s)

/-- 4B `LD C,E` (R120). -/
def exec_ld_c_e (s : State) : Result := .next (opLd8 (.reg .c) (.reg .e) 4 s)

/-- 4C `LD C,H` (R120). -/
def exec_ld_c_h (s : State) : Result := .next (opLd8 (.reg .c) (.reg .h) 4 s)

/-- 4D `LD C,L` (R120). -/
def exec_ld_c_l (s : State) : Result := .next (opLd8 (.reg .c) (.reg .l) 4 s)

/-- 4E `LD C,(HL)` (R121). -/
def exec_ld_c_atHl (s : State) : Result := .next (opLd8 (.reg .c) .atHl 8 s)

/-- 4F `LD C,A` (R120). -/
def exec_ld_c_a (s : State) : Result := .next (opLd8 (.reg .c) (.reg .a) 4 s)

/-- 50 `LD D,B` (R120). -/
def exec_ld_d_b (s : State) : Result := .next (opLd8 (.reg .d) (.reg .b) 4 s)

/-- 51 `LD D,C` (R120). -/
def exec_ld_d_c (s : State) : Result := .next (opLd8 (.reg .d) (.reg .c) 4 s)

/-- 52 `LD D,D` (R120). -/
def exec_ld_d_d (s : State) : Result := .next (opLd8 (.reg .d) (.reg .d) 4 s)

/-- 53 `LD D,E` (R120). -/
def exec_ld_d_e (s : State) : Result := .next (opLd8 (.reg .d) (.reg .e) 4 s)

/-- 54 `LD D,H` (R120). -/
def exec_ld_d_h (s : State) : Result := .next (opLd8 (.reg .d) (.reg .h) 4 s)

/-- 55 `LD D,L` (R120). -/
def exec_ld_d_l (s : State) : Result := .next (opLd8 (.reg .d) (.reg .l) 4 s)

/-- 56 `LD D,(HL)` (R121). -/
def exec_ld_d_atHl (s : State) : Result := .next (opLd8 (.reg .d) .atHl 8 s)

/-- 57 `LD D,A` (R120). -/
def exec_ld_d_a (s : State) : Result := .next (opLd8 (.reg .d) (.reg .a) 4 s)

/-- 58 `LD E,B` (R120). -/
def exec_ld_e_b (s : State) : Result := .next (opLd8 (.reg .e) (.reg .b) 4 s)

/-- 59 `LD E,C` (R120). -/
def exec_ld_e_c (s : State) : Result := .next (opLd8 (.reg .e) (.reg .c) 4 s)

/-- 5A `LD E,D` (R120). -/
def exec_ld_e_d (s : State) : Result := .next (opLd8 (.reg .e) (.reg .d) 4 s)

/-- 5B `LD E,E` (R120). -/
def exec_ld_e_e (s : State) : Result := .next (opLd8 (.reg .e) (.reg .e) 4 s)

/-- 5C `LD E,H` (R120). -/
def exec_ld_e_h (s : State) : Result := .next (opLd8 (.reg .e) (.reg .h) 4 s)

/-- 5D `LD E,L` (R120). -/
def exec_ld_e_l (s : State) : Result := .next (opLd8 (.reg .e) (.reg .l) 4 s)

/-- 5E `LD E,(HL)` (R121). -/
def exec_ld_e_atHl (s : State) : Result := .next (opLd8 (.reg .e) .atHl 8 s)

/-- 5F `LD E,A` (R120). -/
def exec_ld_e_a (s : State) : Result := .next (opLd8 (.reg .e) (.reg .a) 4 s)

/-- 60 `LD H,B` (R120). -/
def exec_ld_h_b (s : State) : Result := .next (opLd8 (.reg .h) (.reg .b) 4 s)

/-- 61 `LD H,C` (R120). -/
def exec_ld_h_c (s : State) : Result := .next (opLd8 (.reg .h) (.reg .c) 4 s)

/-- 62 `LD H,D` (R120). -/
def exec_ld_h_d (s : State) : Result := .next (opLd8 (.reg .h) (.reg .d) 4 s)

/-- 63 `LD H,E` (R120). -/
def exec_ld_h_e (s : State) : Result := .next (opLd8 (.reg .h) (.reg .e) 4 s)

/-- 64 `LD H,H` (R120). -/
def exec_ld_h_h (s : State) : Result := .next (opLd8 (.reg .h) (.reg .h) 4 s)

/-- 65 `LD H,L` (R120). -/
def exec_ld_h_l (s : State) : Result := .next (opLd8 (.reg .h) (.reg .l) 4 s)

/-- 66 `LD H,(HL)` (R121). -/
def exec_ld_h_atHl (s : State) : Result := .next (opLd8 (.reg .h) .atHl 8 s)

/-- 67 `LD H,A` (R120). -/
def exec_ld_h_a (s : State) : Result := .next (opLd8 (.reg .h) (.reg .a) 4 s)

/-- 68 `LD L,B` (R120). -/
def exec_ld_l_b (s : State) : Result := .next (opLd8 (.reg .l) (.reg .b) 4 s)

/-- 69 `LD L,C` (R120). -/
def exec_ld_l_c (s : State) : Result := .next (opLd8 (.reg .l) (.reg .c) 4 s)

/-- 6A `LD L,D` (R120). -/
def exec_ld_l_d (s : State) : Result := .next (opLd8 (.reg .l) (.reg .d) 4 s)

/-- 6B `LD L,E` (R120). -/
def exec_ld_l_e (s : State) : Result := .next (opLd8 (.reg .l) (.reg .e) 4 s)

/-- 6C `LD L,H` (R120). -/
def exec_ld_l_h (s : State) : Result := .next (opLd8 (.reg .l) (.reg .h) 4 s)

/-- 6D `LD L,L` (R120). -/
def exec_ld_l_l (s : State) : Result := .next (opLd8 (.reg .l) (.reg .l) 4 s)

/-- 6E `LD L,(HL)` (R121). -/
def exec_ld_l_atHl (s : State) : Result := .next (opLd8 (.reg .l) .atHl 8 s)

/-- 6F `LD L,A` (R120). -/
def exec_ld_l_a (s : State) : Result := .next (opLd8 (.reg .l) (.reg .a) 4 s)

/-- 70 `LD (HL),B` (R122). -/
def exec_ld_atHl_b (s : State) : Result := .next (opLd8 .atHl (.reg .b) 8 s)

/-- 71 `LD (HL),C` (R122). -/
def exec_ld_atHl_c (s : State) : Result := .next (opLd8 .atHl (.reg .c) 8 s)

/-- 72 `LD (HL),D` (R122). -/
def exec_ld_atHl_d (s : State) : Result := .next (opLd8 .atHl (.reg .d) 8 s)

/-- 73 `LD (HL),E` (R122). -/
def exec_ld_atHl_e (s : State) : Result := .next (opLd8 .atHl (.reg .e) 8 s)

/-- 74 `LD (HL),H` (R122). -/
def exec_ld_atHl_h (s : State) : Result := .next (opLd8 .atHl (.reg .h) 8 s)

/-- 75 `LD (HL),L` (R122). -/
def exec_ld_atHl_l (s : State) : Result := .next (opLd8 .atHl (.reg .l) 8 s)

/-- 77 `LD (HL),A` (R122). -/
def exec_ld_atHl_a (s : State) : Result := .next (opLd8 .atHl (.reg .a) 8 s)

/-- 78 `LD A,B` (R120). -/
def exec_ld_a_b (s : State) : Result := .next (opLd8 (.reg .a) (.reg .b) 4 s)

/-- 79 `LD A,C` (R120). -/
def exec_ld_a_c (s : State) : Result := .next (opLd8 (.reg .a) (.reg .c) 4 s)

/-- 7A `LD A,D` (R120). -/
def exec_ld_a_d (s : State) : Result := .next (opLd8 (.reg .a) (.reg .d) 4 s)

/-- 7B `LD A,E` (R120). -/
def exec_ld_a_e (s : State) : Result := .next (opLd8 (.reg .a) (.reg .e) 4 s)

/-- 7C `LD A,H` (R120). -/
def exec_ld_a_h (s : State) : Result := .next (opLd8 (.reg .a) (.reg .h) 4 s)

/-- 7D `LD A,L` (R120). -/
def exec_ld_a_l (s : State) : Result := .next (opLd8 (.reg .a) (.reg .l) 4 s)

/-- 7E `LD A,(HL)` (R121). -/
def exec_ld_a_atHl (s : State) : Result := .next (opLd8 (.reg .a) .atHl 8 s)

/-- 7F `LD A,A` (R120). -/
def exec_ld_a_a (s : State) : Result := .next (opLd8 (.reg .a) (.reg .a) 4 s)

/-- C1 `POP BC` (R143). -/
def exec_pop_bc (s : State) : Result := .next (opPop .bc s)

/-- C5 `PUSH BC` (R142). -/
def exec_push_bc (s : State) : Result := .next (opPush .bc s)

/-- D1 `POP DE` (R143). -/
def exec_pop_de (s : State) : Result := .next (opPop .de s)

/-- D5 `PUSH DE` (R142). -/
def exec_push_de (s : State) : Result := .next (opPush .de s)

/-- E0 `LDH (a8),A` (R134). -/
def exec_ldh_atA8_a (a8 : Byte) (s : State) : Result := .next (opStoreA (highPage a8) 12 s)

/-- E1 `POP HL` (R143). -/
def exec_pop_hl (s : State) : Result := .next (opPop .hl s)

/-- E2 `LD (C),A` (R136). -/
def exec_ld_atC_a (s : State) : Result := .next (opStoreA (highPage s.cpu.c) 8 s)

/-- E5 `PUSH HL` (R142). -/
def exec_push_hl (s : State) : Result := .next (opPush .hl s)

/-- EA `LD (a16),A` (R132). -/
def exec_ld_atA16_a (a16 : Word) (s : State) : Result := .next (opStoreA a16 16 s)

/-- F0 `LDH A,(a8)` (R133). -/
def exec_ldh_a_atA8 (a8 : Byte) (s : State) : Result := .next (opLoadA (highPage a8) 12 s)

/-- F1 `POP AF` (R143). -/
def exec_pop_af (s : State) : Result := .next (opPop .af s)

/-- F2 `LD A,(C)` (R135). -/
def exec_ld_a_atC (s : State) : Result := .next (opLoadA (highPage s.cpu.c) 8 s)

/-- F5 `PUSH AF` (R142). -/
def exec_push_af (s : State) : Result := .next (opPush .af s)

/-- F9 `LD SP,HL` (R139). -/
def exec_ld_sp_hl (s : State) : Result := .next (opLdSpHl s)

/-- FA `LD A,(a16)` (R131). -/
def exec_ld_a_atA16 (a16 : Word) (s : State) : Result := .next (opLoadA a16 16 s)

end Sys2Proof.Machine
end

