-- ==== Sys2Proof/Machine/RotateBit.lean ====
section
/-! DEFINITION. Rotates, shifts and bit operations (`spec/43_rotate_bit.md`, R178 to R194), and the CB escape (R226): the
shared operations, then one meaning per instruction. -/

namespace Sys2Proof.Machine

/-! ## Shared operations -/

/-- The cost of a CB instruction that writes its operand back (R178, R311). -/
def cbCycles (x : Place8) : Nat :=
  match x with
  | .reg _ => 8
  | .atHl => 16

/-- The cost of BIT, which only reads its operand (R178, R192). -/
def bitCycles (x : Place8) : Nat :=
  match x with
  | .reg _ => 8
  | .atHl => 12

/-- RLCA, RRCA, RLA, RRA: flags `0 0 0 C`, Z cleared even for a zero result (R180 to R183). -/
def opRotateA (op : RotOp) (s : State) : State :=
  let (r, co) := rotate op s.cpu.a (flagC s)
  setCycles 4 (writeFlags (some false) (some false) (some false) (some co) (writeReg8 .a r s))

/-- The rotate/shift template of R179: flags `Z 0 0 C`. -/
def opRotate (op : RotOp) (x : Place8) (s : State) : State :=
  let (v, s1) := readPlace8 x s
  let (r, co) := rotate op v (flagC s1)
  setCycles (cbCycles x) (writeFlags (some (r == 0)) (some false) (some false) (some co) (writePlace8 x r s1))

/-- BIT b: flags `Z 0 1 -`, nothing written (R192). -/
def opBit (b : Nat) (x : Place8) (s : State) : State :=
  let (v, s1) := readPlace8 x s
  setCycles (bitCycles x) (writeFlags (some (!v.getLsbD b)) (some false) (some true) none s1)

/-- RES b: no flag written (R193). -/
def opRes (b : Nat) (x : Place8) (s : State) : State :=
  let (v, s1) := readPlace8 x s
  setCycles (cbCycles x) (writePlace8 x (putBit b false v) s1)

/-- SET b: no flag written (R194). -/
def opSet (b : Nat) (x : Place8) (s : State) : State :=
  let (v, s1) := readPlace8 x s
  setCycles (cbCycles x) (writePlace8 x (putBit b true v) s1)

/-- The operand of a 3-bit code (R92). -/
def placeOfCode (z : Nat) : Place8 :=
  match z with
  | 0 => .reg .b
  | 1 => .reg .c
  | 2 => .reg .d
  | 3 => .reg .e
  | 4 => .reg .h
  | 5 => .reg .l
  | 6 => .atHl
  | _ => .reg .a

/-- The rotate or shift of a 3-bit code (R96). -/
def rotOfCode (y : Nat) : RotOp :=
  match y with
  | 0 => .rlc
  | 1 => .rrc
  | 2 => .rl
  | 3 => .rr
  | 4 => .sla
  | 5 => .sra
  | 6 => .swap
  | _ => .srl

/-- The CB instruction of a byte, by the byte's fields x, y and z (R96): what the prefix escapes to (R226). -/
def opCbPage (cb : Byte) (s : State) : State :=
  let y := cb.toNat / 8 % 8
  let x := placeOfCode (cb.toNat % 8)
  match cb.toNat / 64 with
  | 0 => opRotate (rotOfCode y) x s
  | 1 => opBit y x s
  | 2 => opRes y x s
  | _ => opSet y x s

/-! ## The meanings -/

/-- 07 `RLCA` (R180). -/
def exec_rlca (s : State) : Result := .next (opRotateA .rlc s)

/-- 0F `RRCA` (R181). -/
def exec_rrca (s : State) : Result := .next (opRotateA .rrc s)

/-- 17 `RLA` (R182). -/
def exec_rla (s : State) : Result := .next (opRotateA .rl s)

/-- 1F `RRA` (R183). -/
def exec_rra (s : State) : Result := .next (opRotateA .rr s)

/-- CB `PREFIX CB` (R226). -/
def exec_prefix_cb (cb : Byte) (s : State) : Result := .next (opCbPage cb s)

/-- CB 00 `RLC B` (R184). -/
def exec_rlc_b (s : State) : Result := .next (opRotate .rlc (.reg .b) s)

/-- CB 01 `RLC C` (R184). -/
def exec_rlc_c (s : State) : Result := .next (opRotate .rlc (.reg .c) s)

/-- CB 02 `RLC D` (R184). -/
def exec_rlc_d (s : State) : Result := .next (opRotate .rlc (.reg .d) s)

/-- CB 03 `RLC E` (R184). -/
def exec_rlc_e (s : State) : Result := .next (opRotate .rlc (.reg .e) s)

/-- CB 04 `RLC H` (R184). -/
def exec_rlc_h (s : State) : Result := .next (opRotate .rlc (.reg .h) s)

/-- CB 05 `RLC L` (R184). -/
def exec_rlc_l (s : State) : Result := .next (opRotate .rlc (.reg .l) s)

/-- CB 06 `RLC (HL)` (R184). -/
def exec_rlc_atHl (s : State) : Result := .next (opRotate .rlc .atHl s)

/-- CB 07 `RLC A` (R184). -/
def exec_rlc_a (s : State) : Result := .next (opRotate .rlc (.reg .a) s)

/-- CB 08 `RRC B` (R185). -/
def exec_rrc_b (s : State) : Result := .next (opRotate .rrc (.reg .b) s)

/-- CB 09 `RRC C` (R185). -/
def exec_rrc_c (s : State) : Result := .next (opRotate .rrc (.reg .c) s)

/-- CB 0A `RRC D` (R185). -/
def exec_rrc_d (s : State) : Result := .next (opRotate .rrc (.reg .d) s)

/-- CB 0B `RRC E` (R185). -/
def exec_rrc_e (s : State) : Result := .next (opRotate .rrc (.reg .e) s)

/-- CB 0C `RRC H` (R185). -/
def exec_rrc_h (s : State) : Result := .next (opRotate .rrc (.reg .h) s)

/-- CB 0D `RRC L` (R185). -/
def exec_rrc_l (s : State) : Result := .next (opRotate .rrc (.reg .l) s)

/-- CB 0E `RRC (HL)` (R185). -/
def exec_rrc_atHl (s : State) : Result := .next (opRotate .rrc .atHl s)

/-- CB 0F `RRC A` (R185). -/
def exec_rrc_a (s : State) : Result := .next (opRotate .rrc (.reg .a) s)

/-- CB 10 `RL B` (R186). -/
def exec_rl_b (s : State) : Result := .next (opRotate .rl (.reg .b) s)

/-- CB 11 `RL C` (R186). -/
def exec_rl_c (s : State) : Result := .next (opRotate .rl (.reg .c) s)

/-- CB 12 `RL D` (R186). -/
def exec_rl_d (s : State) : Result := .next (opRotate .rl (.reg .d) s)

/-- CB 13 `RL E` (R186). -/
def exec_rl_e (s : State) : Result := .next (opRotate .rl (.reg .e) s)

/-- CB 14 `RL H` (R186). -/
def exec_rl_h (s : State) : Result := .next (opRotate .rl (.reg .h) s)

/-- CB 15 `RL L` (R186). -/
def exec_rl_l (s : State) : Result := .next (opRotate .rl (.reg .l) s)

/-- CB 16 `RL (HL)` (R186). -/
def exec_rl_atHl (s : State) : Result := .next (opRotate .rl .atHl s)

/-- CB 17 `RL A` (R186). -/
def exec_rl_a (s : State) : Result := .next (opRotate .rl (.reg .a) s)

/-- CB 18 `RR B` (R187). -/
def exec_rr_b (s : State) : Result := .next (opRotate .rr (.reg .b) s)

/-- CB 19 `RR C` (R187). -/
def exec_rr_c (s : State) : Result := .next (opRotate .rr (.reg .c) s)

/-- CB 1A `RR D` (R187). -/
def exec_rr_d (s : State) : Result := .next (opRotate .rr (.reg .d) s)

/-- CB 1B `RR E` (R187). -/
def exec_rr_e (s : State) : Result := .next (opRotate .rr (.reg .e) s)

/-- CB 1C `RR H` (R187). -/
def exec_rr_h (s : State) : Result := .next (opRotate .rr (.reg .h) s)

/-- CB 1D `RR L` (R187). -/
def exec_rr_l (s : State) : Result := .next (opRotate .rr (.reg .l) s)

/-- CB 1E `RR (HL)` (R187). -/
def exec_rr_atHl (s : State) : Result := .next (opRotate .rr .atHl s)

/-- CB 1F `RR A` (R187). -/
def exec_rr_a (s : State) : Result := .next (opRotate .rr (.reg .a) s)

/-- CB 20 `SLA B` (R188). -/
def exec_sla_b (s : State) : Result := .next (opRotate .sla (.reg .b) s)

/-- CB 21 `SLA C` (R188). -/
def exec_sla_c (s : State) : Result := .next (opRotate .sla (.reg .c) s)

/-- CB 22 `SLA D` (R188). -/
def exec_sla_d (s : State) : Result := .next (opRotate .sla (.reg .d) s)

/-- CB 23 `SLA E` (R188). -/
def exec_sla_e (s : State) : Result := .next (opRotate .sla (.reg .e) s)

/-- CB 24 `SLA H` (R188). -/
def exec_sla_h (s : State) : Result := .next (opRotate .sla (.reg .h) s)

/-- CB 25 `SLA L` (R188). -/
def exec_sla_l (s : State) : Result := .next (opRotate .sla (.reg .l) s)

/-- CB 26 `SLA (HL)` (R188). -/
def exec_sla_atHl (s : State) : Result := .next (opRotate .sla .atHl s)

/-- CB 27 `SLA A` (R188). -/
def exec_sla_a (s : State) : Result := .next (opRotate .sla (.reg .a) s)

/-- CB 28 `SRA B` (R189). -/
def exec_sra_b (s : State) : Result := .next (opRotate .sra (.reg .b) s)

/-- CB 29 `SRA C` (R189). -/
def exec_sra_c (s : State) : Result := .next (opRotate .sra (.reg .c) s)

/-- CB 2A `SRA D` (R189). -/
def exec_sra_d (s : State) : Result := .next (opRotate .sra (.reg .d) s)

/-- CB 2B `SRA E` (R189). -/
def exec_sra_e (s : State) : Result := .next (opRotate .sra (.reg .e) s)

/-- CB 2C `SRA H` (R189). -/
def exec_sra_h (s : State) : Result := .next (opRotate .sra (.reg .h) s)

/-- CB 2D `SRA L` (R189). -/
def exec_sra_l (s : State) : Result := .next (opRotate .sra (.reg .l) s)

/-- CB 2E `SRA (HL)` (R189). -/
def exec_sra_atHl (s : State) : Result := .next (opRotate .sra .atHl s)

/-- CB 2F `SRA A` (R189). -/
def exec_sra_a (s : State) : Result := .next (opRotate .sra (.reg .a) s)

/-- CB 30 `SWAP B` (R191). -/
def exec_swap_b (s : State) : Result := .next (opRotate .swap (.reg .b) s)

/-- CB 31 `SWAP C` (R191). -/
def exec_swap_c (s : State) : Result := .next (opRotate .swap (.reg .c) s)

/-- CB 32 `SWAP D` (R191). -/
def exec_swap_d (s : State) : Result := .next (opRotate .swap (.reg .d) s)

/-- CB 33 `SWAP E` (R191). -/
def exec_swap_e (s : State) : Result := .next (opRotate .swap (.reg .e) s)

/-- CB 34 `SWAP H` (R191). -/
def exec_swap_h (s : State) : Result := .next (opRotate .swap (.reg .h) s)

/-- CB 35 `SWAP L` (R191). -/
def exec_swap_l (s : State) : Result := .next (opRotate .swap (.reg .l) s)

/-- CB 36 `SWAP (HL)` (R191). -/
def exec_swap_atHl (s : State) : Result := .next (opRotate .swap .atHl s)

/-- CB 37 `SWAP A` (R191). -/
def exec_swap_a (s : State) : Result := .next (opRotate .swap (.reg .a) s)

/-- CB 38 `SRL B` (R190). -/
def exec_srl_b (s : State) : Result := .next (opRotate .srl (.reg .b) s)

/-- CB 39 `SRL C` (R190). -/
def exec_srl_c (s : State) : Result := .next (opRotate .srl (.reg .c) s)

/-- CB 3A `SRL D` (R190). -/
def exec_srl_d (s : State) : Result := .next (opRotate .srl (.reg .d) s)

/-- CB 3B `SRL E` (R190). -/
def exec_srl_e (s : State) : Result := .next (opRotate .srl (.reg .e) s)

/-- CB 3C `SRL H` (R190). -/
def exec_srl_h (s : State) : Result := .next (opRotate .srl (.reg .h) s)

/-- CB 3D `SRL L` (R190). -/
def exec_srl_l (s : State) : Result := .next (opRotate .srl (.reg .l) s)

/-- CB 3E `SRL (HL)` (R190). -/
def exec_srl_atHl (s : State) : Result := .next (opRotate .srl .atHl s)

/-- CB 3F `SRL A` (R190). -/
def exec_srl_a (s : State) : Result := .next (opRotate .srl (.reg .a) s)

/-- CB 40 `BIT 0,B` (R192). -/
def exec_bit_0_b (s : State) : Result := .next (opBit 0 (.reg .b) s)

/-- CB 41 `BIT 0,C` (R192). -/
def exec_bit_0_c (s : State) : Result := .next (opBit 0 (.reg .c) s)

/-- CB 42 `BIT 0,D` (R192). -/
def exec_bit_0_d (s : State) : Result := .next (opBit 0 (.reg .d) s)

/-- CB 43 `BIT 0,E` (R192). -/
def exec_bit_0_e (s : State) : Result := .next (opBit 0 (.reg .e) s)

/-- CB 44 `BIT 0,H` (R192). -/
def exec_bit_0_h (s : State) : Result := .next (opBit 0 (.reg .h) s)

/-- CB 45 `BIT 0,L` (R192). -/
def exec_bit_0_l (s : State) : Result := .next (opBit 0 (.reg .l) s)

/-- CB 46 `BIT 0,(HL)` (R192). -/
def exec_bit_0_atHl (s : State) : Result := .next (opBit 0 .atHl s)

/-- CB 47 `BIT 0,A` (R192). -/
def exec_bit_0_a (s : State) : Result := .next (opBit 0 (.reg .a) s)

/-- CB 48 `BIT 1,B` (R192). -/
def exec_bit_1_b (s : State) : Result := .next (opBit 1 (.reg .b) s)

/-- CB 49 `BIT 1,C` (R192). -/
def exec_bit_1_c (s : State) : Result := .next (opBit 1 (.reg .c) s)

/-- CB 4A `BIT 1,D` (R192). -/
def exec_bit_1_d (s : State) : Result := .next (opBit 1 (.reg .d) s)

/-- CB 4B `BIT 1,E` (R192). -/
def exec_bit_1_e (s : State) : Result := .next (opBit 1 (.reg .e) s)

/-- CB 4C `BIT 1,H` (R192). -/
def exec_bit_1_h (s : State) : Result := .next (opBit 1 (.reg .h) s)

/-- CB 4D `BIT 1,L` (R192). -/
def exec_bit_1_l (s : State) : Result := .next (opBit 1 (.reg .l) s)

/-- CB 4E `BIT 1,(HL)` (R192). -/
def exec_bit_1_atHl (s : State) : Result := .next (opBit 1 .atHl s)

/-- CB 4F `BIT 1,A` (R192). -/
def exec_bit_1_a (s : State) : Result := .next (opBit 1 (.reg .a) s)

/-- CB 50 `BIT 2,B` (R192). -/
def exec_bit_2_b (s : State) : Result := .next (opBit 2 (.reg .b) s)

/-- CB 51 `BIT 2,C` (R192). -/
def exec_bit_2_c (s : State) : Result := .next (opBit 2 (.reg .c) s)

/-- CB 52 `BIT 2,D` (R192). -/
def exec_bit_2_d (s : State) : Result := .next (opBit 2 (.reg .d) s)

/-- CB 53 `BIT 2,E` (R192). -/
def exec_bit_2_e (s : State) : Result := .next (opBit 2 (.reg .e) s)

/-- CB 54 `BIT 2,H` (R192). -/
def exec_bit_2_h (s : State) : Result := .next (opBit 2 (.reg .h) s)

/-- CB 55 `BIT 2,L` (R192). -/
def exec_bit_2_l (s : State) : Result := .next (opBit 2 (.reg .l) s)

/-- CB 56 `BIT 2,(HL)` (R192). -/
def exec_bit_2_atHl (s : State) : Result := .next (opBit 2 .atHl s)

/-- CB 57 `BIT 2,A` (R192). -/
def exec_bit_2_a (s : State) : Result := .next (opBit 2 (.reg .a) s)

/-- CB 58 `BIT 3,B` (R192). -/
def exec_bit_3_b (s : State) : Result := .next (opBit 3 (.reg .b) s)

/-- CB 59 `BIT 3,C` (R192). -/
def exec_bit_3_c (s : State) : Result := .next (opBit 3 (.reg .c) s)

/-- CB 5A `BIT 3,D` (R192). -/
def exec_bit_3_d (s : State) : Result := .next (opBit 3 (.reg .d) s)

/-- CB 5B `BIT 3,E` (R192). -/
def exec_bit_3_e (s : State) : Result := .next (opBit 3 (.reg .e) s)

/-- CB 5C `BIT 3,H` (R192). -/
def exec_bit_3_h (s : State) : Result := .next (opBit 3 (.reg .h) s)

/-- CB 5D `BIT 3,L` (R192). -/
def exec_bit_3_l (s : State) : Result := .next (opBit 3 (.reg .l) s)

/-- CB 5E `BIT 3,(HL)` (R192). -/
def exec_bit_3_atHl (s : State) : Result := .next (opBit 3 .atHl s)

/-- CB 5F `BIT 3,A` (R192). -/
def exec_bit_3_a (s : State) : Result := .next (opBit 3 (.reg .a) s)

/-- CB 60 `BIT 4,B` (R192). -/
def exec_bit_4_b (s : State) : Result := .next (opBit 4 (.reg .b) s)

/-- CB 61 `BIT 4,C` (R192). -/
def exec_bit_4_c (s : State) : Result := .next (opBit 4 (.reg .c) s)

/-- CB 62 `BIT 4,D` (R192). -/
def exec_bit_4_d (s : State) : Result := .next (opBit 4 (.reg .d) s)

/-- CB 63 `BIT 4,E` (R192). -/
def exec_bit_4_e (s : State) : Result := .next (opBit 4 (.reg .e) s)

/-- CB 64 `BIT 4,H` (R192). -/
def exec_bit_4_h (s : State) : Result := .next (opBit 4 (.reg .h) s)

/-- CB 65 `BIT 4,L` (R192). -/
def exec_bit_4_l (s : State) : Result := .next (opBit 4 (.reg .l) s)

/-- CB 66 `BIT 4,(HL)` (R192). -/
def exec_bit_4_atHl (s : State) : Result := .next (opBit 4 .atHl s)

/-- CB 67 `BIT 4,A` (R192). -/
def exec_bit_4_a (s : State) : Result := .next (opBit 4 (.reg .a) s)

/-- CB 68 `BIT 5,B` (R192). -/
def exec_bit_5_b (s : State) : Result := .next (opBit 5 (.reg .b) s)

/-- CB 69 `BIT 5,C` (R192). -/
def exec_bit_5_c (s : State) : Result := .next (opBit 5 (.reg .c) s)

/-- CB 6A `BIT 5,D` (R192). -/
def exec_bit_5_d (s : State) : Result := .next (opBit 5 (.reg .d) s)

/-- CB 6B `BIT 5,E` (R192). -/
def exec_bit_5_e (s : State) : Result := .next (opBit 5 (.reg .e) s)

/-- CB 6C `BIT 5,H` (R192). -/
def exec_bit_5_h (s : State) : Result := .next (opBit 5 (.reg .h) s)

/-- CB 6D `BIT 5,L` (R192). -/
def exec_bit_5_l (s : State) : Result := .next (opBit 5 (.reg .l) s)

/-- CB 6E `BIT 5,(HL)` (R192). -/
def exec_bit_5_atHl (s : State) : Result := .next (opBit 5 .atHl s)

/-- CB 6F `BIT 5,A` (R192). -/
def exec_bit_5_a (s : State) : Result := .next (opBit 5 (.reg .a) s)

/-- CB 70 `BIT 6,B` (R192). -/
def exec_bit_6_b (s : State) : Result := .next (opBit 6 (.reg .b) s)

/-- CB 71 `BIT 6,C` (R192). -/
def exec_bit_6_c (s : State) : Result := .next (opBit 6 (.reg .c) s)

/-- CB 72 `BIT 6,D` (R192). -/
def exec_bit_6_d (s : State) : Result := .next (opBit 6 (.reg .d) s)

/-- CB 73 `BIT 6,E` (R192). -/
def exec_bit_6_e (s : State) : Result := .next (opBit 6 (.reg .e) s)

/-- CB 74 `BIT 6,H` (R192). -/
def exec_bit_6_h (s : State) : Result := .next (opBit 6 (.reg .h) s)

/-- CB 75 `BIT 6,L` (R192). -/
def exec_bit_6_l (s : State) : Result := .next (opBit 6 (.reg .l) s)

/-- CB 76 `BIT 6,(HL)` (R192). -/
def exec_bit_6_atHl (s : State) : Result := .next (opBit 6 .atHl s)

/-- CB 77 `BIT 6,A` (R192). -/
def exec_bit_6_a (s : State) : Result := .next (opBit 6 (.reg .a) s)

/-- CB 78 `BIT 7,B` (R192). -/
def exec_bit_7_b (s : State) : Result := .next (opBit 7 (.reg .b) s)

/-- CB 79 `BIT 7,C` (R192). -/
def exec_bit_7_c (s : State) : Result := .next (opBit 7 (.reg .c) s)

/-- CB 7A `BIT 7,D` (R192). -/
def exec_bit_7_d (s : State) : Result := .next (opBit 7 (.reg .d) s)

/-- CB 7B `BIT 7,E` (R192). -/
def exec_bit_7_e (s : State) : Result := .next (opBit 7 (.reg .e) s)

/-- CB 7C `BIT 7,H` (R192). -/
def exec_bit_7_h (s : State) : Result := .next (opBit 7 (.reg .h) s)

/-- CB 7D `BIT 7,L` (R192). -/
def exec_bit_7_l (s : State) : Result := .next (opBit 7 (.reg .l) s)

/-- CB 7E `BIT 7,(HL)` (R192). -/
def exec_bit_7_atHl (s : State) : Result := .next (opBit 7 .atHl s)

/-- CB 7F `BIT 7,A` (R192). -/
def exec_bit_7_a (s : State) : Result := .next (opBit 7 (.reg .a) s)

/-- CB 80 `RES 0,B` (R193). -/
def exec_res_0_b (s : State) : Result := .next (opRes 0 (.reg .b) s)

/-- CB 81 `RES 0,C` (R193). -/
def exec_res_0_c (s : State) : Result := .next (opRes 0 (.reg .c) s)

/-- CB 82 `RES 0,D` (R193). -/
def exec_res_0_d (s : State) : Result := .next (opRes 0 (.reg .d) s)

/-- CB 83 `RES 0,E` (R193). -/
def exec_res_0_e (s : State) : Result := .next (opRes 0 (.reg .e) s)

/-- CB 84 `RES 0,H` (R193). -/
def exec_res_0_h (s : State) : Result := .next (opRes 0 (.reg .h) s)

/-- CB 85 `RES 0,L` (R193). -/
def exec_res_0_l (s : State) : Result := .next (opRes 0 (.reg .l) s)

/-- CB 86 `RES 0,(HL)` (R193). -/
def exec_res_0_atHl (s : State) : Result := .next (opRes 0 .atHl s)

/-- CB 87 `RES 0,A` (R193). -/
def exec_res_0_a (s : State) : Result := .next (opRes 0 (.reg .a) s)

/-- CB 88 `RES 1,B` (R193). -/
def exec_res_1_b (s : State) : Result := .next (opRes 1 (.reg .b) s)

/-- CB 89 `RES 1,C` (R193). -/
def exec_res_1_c (s : State) : Result := .next (opRes 1 (.reg .c) s)

/-- CB 8A `RES 1,D` (R193). -/
def exec_res_1_d (s : State) : Result := .next (opRes 1 (.reg .d) s)

/-- CB 8B `RES 1,E` (R193). -/
def exec_res_1_e (s : State) : Result := .next (opRes 1 (.reg .e) s)

/-- CB 8C `RES 1,H` (R193). -/
def exec_res_1_h (s : State) : Result := .next (opRes 1 (.reg .h) s)

/-- CB 8D `RES 1,L` (R193). -/
def exec_res_1_l (s : State) : Result := .next (opRes 1 (.reg .l) s)

/-- CB 8E `RES 1,(HL)` (R193). -/
def exec_res_1_atHl (s : State) : Result := .next (opRes 1 .atHl s)

/-- CB 8F `RES 1,A` (R193). -/
def exec_res_1_a (s : State) : Result := .next (opRes 1 (.reg .a) s)

/-- CB 90 `RES 2,B` (R193). -/
def exec_res_2_b (s : State) : Result := .next (opRes 2 (.reg .b) s)

/-- CB 91 `RES 2,C` (R193). -/
def exec_res_2_c (s : State) : Result := .next (opRes 2 (.reg .c) s)

/-- CB 92 `RES 2,D` (R193). -/
def exec_res_2_d (s : State) : Result := .next (opRes 2 (.reg .d) s)

/-- CB 93 `RES 2,E` (R193). -/
def exec_res_2_e (s : State) : Result := .next (opRes 2 (.reg .e) s)

/-- CB 94 `RES 2,H` (R193). -/
def exec_res_2_h (s : State) : Result := .next (opRes 2 (.reg .h) s)

/-- CB 95 `RES 2,L` (R193). -/
def exec_res_2_l (s : State) : Result := .next (opRes 2 (.reg .l) s)

/-- CB 96 `RES 2,(HL)` (R193). -/
def exec_res_2_atHl (s : State) : Result := .next (opRes 2 .atHl s)

/-- CB 97 `RES 2,A` (R193). -/
def exec_res_2_a (s : State) : Result := .next (opRes 2 (.reg .a) s)

/-- CB 98 `RES 3,B` (R193). -/
def exec_res_3_b (s : State) : Result := .next (opRes 3 (.reg .b) s)

/-- CB 99 `RES 3,C` (R193). -/
def exec_res_3_c (s : State) : Result := .next (opRes 3 (.reg .c) s)

/-- CB 9A `RES 3,D` (R193). -/
def exec_res_3_d (s : State) : Result := .next (opRes 3 (.reg .d) s)

/-- CB 9B `RES 3,E` (R193). -/
def exec_res_3_e (s : State) : Result := .next (opRes 3 (.reg .e) s)

/-- CB 9C `RES 3,H` (R193). -/
def exec_res_3_h (s : State) : Result := .next (opRes 3 (.reg .h) s)

/-- CB 9D `RES 3,L` (R193). -/
def exec_res_3_l (s : State) : Result := .next (opRes 3 (.reg .l) s)

/-- CB 9E `RES 3,(HL)` (R193). -/
def exec_res_3_atHl (s : State) : Result := .next (opRes 3 .atHl s)

/-- CB 9F `RES 3,A` (R193). -/
def exec_res_3_a (s : State) : Result := .next (opRes 3 (.reg .a) s)

/-- CB A0 `RES 4,B` (R193). -/
def exec_res_4_b (s : State) : Result := .next (opRes 4 (.reg .b) s)

/-- CB A1 `RES 4,C` (R193). -/
def exec_res_4_c (s : State) : Result := .next (opRes 4 (.reg .c) s)

/-- CB A2 `RES 4,D` (R193). -/
def exec_res_4_d (s : State) : Result := .next (opRes 4 (.reg .d) s)

/-- CB A3 `RES 4,E` (R193). -/
def exec_res_4_e (s : State) : Result := .next (opRes 4 (.reg .e) s)

/-- CB A4 `RES 4,H` (R193). -/
def exec_res_4_h (s : State) : Result := .next (opRes 4 (.reg .h) s)

/-- CB A5 `RES 4,L` (R193). -/
def exec_res_4_l (s : State) : Result := .next (opRes 4 (.reg .l) s)

/-- CB A6 `RES 4,(HL)` (R193). -/
def exec_res_4_atHl (s : State) : Result := .next (opRes 4 .atHl s)

/-- CB A7 `RES 4,A` (R193). -/
def exec_res_4_a (s : State) : Result := .next (opRes 4 (.reg .a) s)

/-- CB A8 `RES 5,B` (R193). -/
def exec_res_5_b (s : State) : Result := .next (opRes 5 (.reg .b) s)

/-- CB A9 `RES 5,C` (R193). -/
def exec_res_5_c (s : State) : Result := .next (opRes 5 (.reg .c) s)

/-- CB AA `RES 5,D` (R193). -/
def exec_res_5_d (s : State) : Result := .next (opRes 5 (.reg .d) s)

/-- CB AB `RES 5,E` (R193). -/
def exec_res_5_e (s : State) : Result := .next (opRes 5 (.reg .e) s)

/-- CB AC `RES 5,H` (R193). -/
def exec_res_5_h (s : State) : Result := .next (opRes 5 (.reg .h) s)

/-- CB AD `RES 5,L` (R193). -/
def exec_res_5_l (s : State) : Result := .next (opRes 5 (.reg .l) s)

/-- CB AE `RES 5,(HL)` (R193). -/
def exec_res_5_atHl (s : State) : Result := .next (opRes 5 .atHl s)

/-- CB AF `RES 5,A` (R193). -/
def exec_res_5_a (s : State) : Result := .next (opRes 5 (.reg .a) s)

/-- CB B0 `RES 6,B` (R193). -/
def exec_res_6_b (s : State) : Result := .next (opRes 6 (.reg .b) s)

/-- CB B1 `RES 6,C` (R193). -/
def exec_res_6_c (s : State) : Result := .next (opRes 6 (.reg .c) s)

/-- CB B2 `RES 6,D` (R193). -/
def exec_res_6_d (s : State) : Result := .next (opRes 6 (.reg .d) s)

/-- CB B3 `RES 6,E` (R193). -/
def exec_res_6_e (s : State) : Result := .next (opRes 6 (.reg .e) s)

/-- CB B4 `RES 6,H` (R193). -/
def exec_res_6_h (s : State) : Result := .next (opRes 6 (.reg .h) s)

/-- CB B5 `RES 6,L` (R193). -/
def exec_res_6_l (s : State) : Result := .next (opRes 6 (.reg .l) s)

/-- CB B6 `RES 6,(HL)` (R193). -/
def exec_res_6_atHl (s : State) : Result := .next (opRes 6 .atHl s)

/-- CB B7 `RES 6,A` (R193). -/
def exec_res_6_a (s : State) : Result := .next (opRes 6 (.reg .a) s)

/-- CB B8 `RES 7,B` (R193). -/
def exec_res_7_b (s : State) : Result := .next (opRes 7 (.reg .b) s)

/-- CB B9 `RES 7,C` (R193). -/
def exec_res_7_c (s : State) : Result := .next (opRes 7 (.reg .c) s)

/-- CB BA `RES 7,D` (R193). -/
def exec_res_7_d (s : State) : Result := .next (opRes 7 (.reg .d) s)

/-- CB BB `RES 7,E` (R193). -/
def exec_res_7_e (s : State) : Result := .next (opRes 7 (.reg .e) s)

/-- CB BC `RES 7,H` (R193). -/
def exec_res_7_h (s : State) : Result := .next (opRes 7 (.reg .h) s)

/-- CB BD `RES 7,L` (R193). -/
def exec_res_7_l (s : State) : Result := .next (opRes 7 (.reg .l) s)

/-- CB BE `RES 7,(HL)` (R193). -/
def exec_res_7_atHl (s : State) : Result := .next (opRes 7 .atHl s)

/-- CB BF `RES 7,A` (R193). -/
def exec_res_7_a (s : State) : Result := .next (opRes 7 (.reg .a) s)

/-- CB C0 `SET 0,B` (R194). -/
def exec_set_0_b (s : State) : Result := .next (opSet 0 (.reg .b) s)

/-- CB C1 `SET 0,C` (R194). -/
def exec_set_0_c (s : State) : Result := .next (opSet 0 (.reg .c) s)

/-- CB C2 `SET 0,D` (R194). -/
def exec_set_0_d (s : State) : Result := .next (opSet 0 (.reg .d) s)

/-- CB C3 `SET 0,E` (R194). -/
def exec_set_0_e (s : State) : Result := .next (opSet 0 (.reg .e) s)

/-- CB C4 `SET 0,H` (R194). -/
def exec_set_0_h (s : State) : Result := .next (opSet 0 (.reg .h) s)

/-- CB C5 `SET 0,L` (R194). -/
def exec_set_0_l (s : State) : Result := .next (opSet 0 (.reg .l) s)

/-- CB C6 `SET 0,(HL)` (R194). -/
def exec_set_0_atHl (s : State) : Result := .next (opSet 0 .atHl s)

/-- CB C7 `SET 0,A` (R194). -/
def exec_set_0_a (s : State) : Result := .next (opSet 0 (.reg .a) s)

/-- CB C8 `SET 1,B` (R194). -/
def exec_set_1_b (s : State) : Result := .next (opSet 1 (.reg .b) s)

/-- CB C9 `SET 1,C` (R194). -/
def exec_set_1_c (s : State) : Result := .next (opSet 1 (.reg .c) s)

/-- CB CA `SET 1,D` (R194). -/
def exec_set_1_d (s : State) : Result := .next (opSet 1 (.reg .d) s)

/-- CB CB `SET 1,E` (R194). -/
def exec_set_1_e (s : State) : Result := .next (opSet 1 (.reg .e) s)

/-- CB CC `SET 1,H` (R194). -/
def exec_set_1_h (s : State) : Result := .next (opSet 1 (.reg .h) s)

/-- CB CD `SET 1,L` (R194). -/
def exec_set_1_l (s : State) : Result := .next (opSet 1 (.reg .l) s)

/-- CB CE `SET 1,(HL)` (R194). -/
def exec_set_1_atHl (s : State) : Result := .next (opSet 1 .atHl s)

/-- CB CF `SET 1,A` (R194). -/
def exec_set_1_a (s : State) : Result := .next (opSet 1 (.reg .a) s)

/-- CB D0 `SET 2,B` (R194). -/
def exec_set_2_b (s : State) : Result := .next (opSet 2 (.reg .b) s)

/-- CB D1 `SET 2,C` (R194). -/
def exec_set_2_c (s : State) : Result := .next (opSet 2 (.reg .c) s)

/-- CB D2 `SET 2,D` (R194). -/
def exec_set_2_d (s : State) : Result := .next (opSet 2 (.reg .d) s)

/-- CB D3 `SET 2,E` (R194). -/
def exec_set_2_e (s : State) : Result := .next (opSet 2 (.reg .e) s)

/-- CB D4 `SET 2,H` (R194). -/
def exec_set_2_h (s : State) : Result := .next (opSet 2 (.reg .h) s)

/-- CB D5 `SET 2,L` (R194). -/
def exec_set_2_l (s : State) : Result := .next (opSet 2 (.reg .l) s)

/-- CB D6 `SET 2,(HL)` (R194). -/
def exec_set_2_atHl (s : State) : Result := .next (opSet 2 .atHl s)

/-- CB D7 `SET 2,A` (R194). -/
def exec_set_2_a (s : State) : Result := .next (opSet 2 (.reg .a) s)

/-- CB D8 `SET 3,B` (R194). -/
def exec_set_3_b (s : State) : Result := .next (opSet 3 (.reg .b) s)

/-- CB D9 `SET 3,C` (R194). -/
def exec_set_3_c (s : State) : Result := .next (opSet 3 (.reg .c) s)

/-- CB DA `SET 3,D` (R194). -/
def exec_set_3_d (s : State) : Result := .next (opSet 3 (.reg .d) s)

/-- CB DB `SET 3,E` (R194). -/
def exec_set_3_e (s : State) : Result := .next (opSet 3 (.reg .e) s)

/-- CB DC `SET 3,H` (R194). -/
def exec_set_3_h (s : State) : Result := .next (opSet 3 (.reg .h) s)

/-- CB DD `SET 3,L` (R194). -/
def exec_set_3_l (s : State) : Result := .next (opSet 3 (.reg .l) s)

/-- CB DE `SET 3,(HL)` (R194). -/
def exec_set_3_atHl (s : State) : Result := .next (opSet 3 .atHl s)

/-- CB DF `SET 3,A` (R194). -/
def exec_set_3_a (s : State) : Result := .next (opSet 3 (.reg .a) s)

/-- CB E0 `SET 4,B` (R194). -/
def exec_set_4_b (s : State) : Result := .next (opSet 4 (.reg .b) s)

/-- CB E1 `SET 4,C` (R194). -/
def exec_set_4_c (s : State) : Result := .next (opSet 4 (.reg .c) s)

/-- CB E2 `SET 4,D` (R194). -/
def exec_set_4_d (s : State) : Result := .next (opSet 4 (.reg .d) s)

/-- CB E3 `SET 4,E` (R194). -/
def exec_set_4_e (s : State) : Result := .next (opSet 4 (.reg .e) s)

/-- CB E4 `SET 4,H` (R194). -/
def exec_set_4_h (s : State) : Result := .next (opSet 4 (.reg .h) s)

/-- CB E5 `SET 4,L` (R194). -/
def exec_set_4_l (s : State) : Result := .next (opSet 4 (.reg .l) s)

/-- CB E6 `SET 4,(HL)` (R194). -/
def exec_set_4_atHl (s : State) : Result := .next (opSet 4 .atHl s)

/-- CB E7 `SET 4,A` (R194). -/
def exec_set_4_a (s : State) : Result := .next (opSet 4 (.reg .a) s)

/-- CB E8 `SET 5,B` (R194). -/
def exec_set_5_b (s : State) : Result := .next (opSet 5 (.reg .b) s)

/-- CB E9 `SET 5,C` (R194). -/
def exec_set_5_c (s : State) : Result := .next (opSet 5 (.reg .c) s)

/-- CB EA `SET 5,D` (R194). -/
def exec_set_5_d (s : State) : Result := .next (opSet 5 (.reg .d) s)

/-- CB EB `SET 5,E` (R194). -/
def exec_set_5_e (s : State) : Result := .next (opSet 5 (.reg .e) s)

/-- CB EC `SET 5,H` (R194). -/
def exec_set_5_h (s : State) : Result := .next (opSet 5 (.reg .h) s)

/-- CB ED `SET 5,L` (R194). -/
def exec_set_5_l (s : State) : Result := .next (opSet 5 (.reg .l) s)

/-- CB EE `SET 5,(HL)` (R194). -/
def exec_set_5_atHl (s : State) : Result := .next (opSet 5 .atHl s)

/-- CB EF `SET 5,A` (R194). -/
def exec_set_5_a (s : State) : Result := .next (opSet 5 (.reg .a) s)

/-- CB F0 `SET 6,B` (R194). -/
def exec_set_6_b (s : State) : Result := .next (opSet 6 (.reg .b) s)

/-- CB F1 `SET 6,C` (R194). -/
def exec_set_6_c (s : State) : Result := .next (opSet 6 (.reg .c) s)

/-- CB F2 `SET 6,D` (R194). -/
def exec_set_6_d (s : State) : Result := .next (opSet 6 (.reg .d) s)

/-- CB F3 `SET 6,E` (R194). -/
def exec_set_6_e (s : State) : Result := .next (opSet 6 (.reg .e) s)

/-- CB F4 `SET 6,H` (R194). -/
def exec_set_6_h (s : State) : Result := .next (opSet 6 (.reg .h) s)

/-- CB F5 `SET 6,L` (R194). -/
def exec_set_6_l (s : State) : Result := .next (opSet 6 (.reg .l) s)

/-- CB F6 `SET 6,(HL)` (R194). -/
def exec_set_6_atHl (s : State) : Result := .next (opSet 6 .atHl s)

/-- CB F7 `SET 6,A` (R194). -/
def exec_set_6_a (s : State) : Result := .next (opSet 6 (.reg .a) s)

/-- CB F8 `SET 7,B` (R194). -/
def exec_set_7_b (s : State) : Result := .next (opSet 7 (.reg .b) s)

/-- CB F9 `SET 7,C` (R194). -/
def exec_set_7_c (s : State) : Result := .next (opSet 7 (.reg .c) s)

/-- CB FA `SET 7,D` (R194). -/
def exec_set_7_d (s : State) : Result := .next (opSet 7 (.reg .d) s)

/-- CB FB `SET 7,E` (R194). -/
def exec_set_7_e (s : State) : Result := .next (opSet 7 (.reg .e) s)

/-- CB FC `SET 7,H` (R194). -/
def exec_set_7_h (s : State) : Result := .next (opSet 7 (.reg .h) s)

/-- CB FD `SET 7,L` (R194). -/
def exec_set_7_l (s : State) : Result := .next (opSet 7 (.reg .l) s)

/-- CB FE `SET 7,(HL)` (R194). -/
def exec_set_7_atHl (s : State) : Result := .next (opSet 7 .atHl s)

/-- CB FF `SET 7,A` (R194). -/
def exec_set_7_a (s : State) : Result := .next (opSet 7 (.reg .a) s)

end Sys2Proof.Machine
end

