-- ==== Sys2Proof/Machine/System.lean ====
section
/-! DEFINITION. System instructions and the undefined opcodes (`spec/45_system.md`, R220 to R225): the shared operations,
then one meaning per instruction. -/

namespace Sys2Proof.Machine

/-! ## Shared operations -/

/-- NOP (R220). -/
def opNop (s : State) : State := setCycles 4 s

/-- HALT (R221). With the parameter `halt_bug`, IME=0 and a request pending and enabled it does not halt but sets the
latch. -/
def opHalt (s : State) : State :=
  if s.env.cfg.haltBug ∧ ¬s.cpu.ime ∧ pendingAndEnabled s ≠ 0 then
    setCycles 4 { s with cpu.haltBugLatch := true }
  else
    setCycles 4 { s with cpu.halted := true }

/-- STOP (R222). -/
def opStop (s : State) : State := setCycles 4 { s with cpu.stopped := true }

/-- DI (R223): at once, and a pending EI is cancelled. -/
def opDi (s : State) : State := setCycles 4 { s with cpu.ime := false, cpu.eiDelay := 0 }

/-- EI (R224): arms the delay when none is counting; IME is set by the boundary (R232). -/
def opEi (s : State) : State :=
  setCycles 4 (if s.cpu.eiDelay = 0 then { s with cpu.eiDelay := 2 } else s)

/-! ## The meanings -/

/-- 00 `NOP` (R220). -/
def exec_nop (s : State) : Result := .next (opNop s)

/-- 10 `STOP` (R222). -/
def exec_stop (_pad : Byte) (s : State) : Result := .next (opStop s)

/-- 76 `HALT` (R221). -/
def exec_halt (s : State) : Result := .next (opHalt s)

/-- D3 `UNDEFINED_D3` (R225). -/
def exec_undefined_d3 (s : State) : Result := raiseInvalidOpcode 0xD3 s

/-- DB `UNDEFINED_DB` (R225). -/
def exec_undefined_db (s : State) : Result := raiseInvalidOpcode 0xDB s

/-- DD `UNDEFINED_DD` (R225). -/
def exec_undefined_dd (s : State) : Result := raiseInvalidOpcode 0xDD s

/-- E3 `UNDEFINED_E3` (R225). -/
def exec_undefined_e3 (s : State) : Result := raiseInvalidOpcode 0xE3 s

/-- E4 `UNDEFINED_E4` (R225). -/
def exec_undefined_e4 (s : State) : Result := raiseInvalidOpcode 0xE4 s

/-- EB `UNDEFINED_EB` (R225). -/
def exec_undefined_eb (s : State) : Result := raiseInvalidOpcode 0xEB s

/-- EC `UNDEFINED_EC` (R225). -/
def exec_undefined_ec (s : State) : Result := raiseInvalidOpcode 0xEC s

/-- ED `UNDEFINED_ED` (R225). -/
def exec_undefined_ed (s : State) : Result := raiseInvalidOpcode 0xED s

/-- F3 `DI` (R223). -/
def exec_di (s : State) : Result := .next (opDi s)

/-- F4 `UNDEFINED_F4` (R225). -/
def exec_undefined_f4 (s : State) : Result := raiseInvalidOpcode 0xF4 s

/-- FB `EI` (R224). -/
def exec_ei (s : State) : Result := .next (opEi s)

/-- FC `UNDEFINED_FC` (R225). -/
def exec_undefined_fc (s : State) : Result := raiseInvalidOpcode 0xFC s

/-- FD `UNDEFINED_FD` (R225). -/
def exec_undefined_fd (s : State) : Result := raiseInvalidOpcode 0xFD s

end Sys2Proof.Machine
end

