-- ==== Sys2Proof/Machine/Render.lean ====
section
/-! DEFINITION. The scanline renderer (`spec/60_exceptions.md` section 7, R270 to R282). -/

namespace Sys2Proof.Machine

/-- A read of the renderer: through the bus, with no side effect (R68, R271). -/
def renderRead (a : Word) (s : State) : Byte := (memRead a s).1

/-- A bit of LCDC (R33). -/
def lcdcBit (i : Nat) (s : State) : Bool := s.ppu.lcdc.getLsbD i

/-- The shade of colour index `ci` in palette `p` (R38): `(p >> 2*ci) & 3`. -/
def shade (p : Byte) (ci : BitVec 2) : BitVec 2 := (p >>> (2 * ci.toNat)).setWidth 2

/-! ## Tiles, background and window -/

/-- The address of tile `t` (R272): unsigned from 0x8000, or signed from 0x9000. -/
def tileAddr (t : Byte) (unsignedMode : Bool) : Word :=
  if unsignedMode then 0x8000 + 16 * zext16 t else 0x9000 + 16 * sext16 t

/-- `tile_pixel(t, c, r, unsigned)` (R272), for column `c` and row `r` in 0..7. -/
def tilePixel (t : Byte) (c r : Nat) (unsignedMode : Bool) (s : State) : BitVec 2 :=
  let base := tileAddr t unsignedMode
  let lo := renderRead (base + BitVec.ofNat 16 (2 * r)) s
  let hi := renderRead (base + BitVec.ofNat 16 (2 * r) + 1) s
  BitVec.ofBool (hi.getLsbD (7 - c)) ++ BitVec.ofBool (lo.getLsbD (7 - c))

/-- The address of the map entry for the pixel (x, y) of a 256 by 256 plane (R273, R274). -/
def mapAddr (high : Bool) (x y : Nat) : Word :=
  (if high then 0x9C00 else 0x9800) + BitVec.ofNat 16 (32 * (y / 8) + x / 8)

/-- The colour index of pixel (x, y) of the plane with the given map (R273, R274). -/
def planeIndex (high : Bool) (x y : Nat) (s : State) : BitVec 2 :=
  tilePixel (renderRead (mapAddr high x y) s) (x % 8) (y % 8) (lcdcBit 4 s) s

/-- The background's colour index at column `x` of line `line` (R273). -/
def bgIndex (line : Byte) (x : Nat) (s : State) : BitVec 2 :=
  planeIndex (lcdcBit 3 s) ((x + s.ppu.scx.toNat) % 256) ((line.toNat + s.ppu.scy.toNat) % 256) s

/-- The window is active on line `line` (R274). -/
def windowActive (line : Byte) (s : State) : Bool :=
  lcdcBit 5 s && lcdcBit 0 s && decide (line.toNat ≥ s.ppu.wy.toNat) && decide (s.ppu.wx.toNat ≤ 166)

/-- The window's colour index at column `x`, from the window line counter (R274, R281). -/
def windowIndex (x : Nat) (s : State) : BitVec 2 :=
  planeIndex (lcdcBit 6 s) (x + 7 - s.ppu.wx.toNat) s.ppu.windowLine.toNat s

/-! ## Sprites -/

/-- An OAM entry (R282). -/
structure Sprite where
  y : Byte
  x : Byte
  tile : Byte
  attr : Byte
deriving DecidableEq, Repr

/-- OAM entry `i`, at 0xFE00 + 4i (R282). -/
def oamEntry (i : Nat) (s : State) : Sprite :=
  let a := BitVec.ofNat 16 (0xFE00 + 4 * i)
  { y := renderRead a s, x := renderRead (a + 1) s, tile := renderRead (a + 2) s, attr := renderRead (a + 3) s }

/-- The height of sprites, 8 or 16 (R275). -/
def spriteHeight (s : State) : Nat := if lcdcBit 2 s then 16 else 8

/-- The sprite's rows meet the line: `Y <= LY + 16 < Y + h` (R275). -/
def onLine (h : Nat) (line : Byte) (sp : Sprite) : Bool :=
  decide (sp.y.toNat ≤ line.toNat + 16) && decide (line.toNat + 16 < sp.y.toNat + h)

/-- The sprites of a line: the first ten entries that meet it, in table order; none when LCDC[1] = 0 (R275). -/
def selectedSprites (line : Byte) (s : State) : List Sprite :=
  if lcdcBit 1 s then
    (((List.range 40).map (fun i => oamEntry i s)).filter (onLine (spriteHeight s) line)).take 10
  else []

/-- Puts a sprite before the first one whose X is not smaller. Inserting a list from its end keeps the order of equal X. -/
def insertByX (sp : Sprite) : List Sprite → List Sprite
  | [] => [sp]
  | q :: qs => if sp.x.toNat ≤ q.x.toNat then sp :: q :: qs else q :: insertByX sp qs

/-- The order in which a line's sprites are tried (R278): table order, or ascending X and then table order. -/
def priorityOrder (o : ObjPriority) (l : List Sprite) : List Sprite :=
  match o with
  | .oamIndex => l
  | .dmgX => l.foldr insertByX []

/-- The sprite covers column `x`: `0 <= x - (X - 8) < 8` (R276). -/
def covers (sp : Sprite) (x : Nat) : Bool :=
  decide (sp.x.toNat ≤ x + 8) && decide (x + 8 < sp.x.toNat + 8)

/-- The sprite's colour index at a column it covers (R276). -/
def spriteIndex (sp : Sprite) (line : Byte) (x : Nat) (s : State) : BitVec 2 :=
  let h := spriteHeight s
  let col0 := x + 8 - sp.x.toNat
  let row0 := line.toNat + 16 - sp.y.toNat
  let row := if sp.attr.getLsbD 6 then h - 1 - row0 else row0
  let col := if sp.attr.getLsbD 5 then 7 - col0 else col0
  if h = 16 then
    tilePixel ((sp.tile &&& 0xFE) ||| BitVec.ofNat 8 (row / 8)) col (row % 8) true s
  else
    tilePixel sp.tile col row true s

/-- The palette of a sprite (R277, R282). -/
def spritePalette (sp : Sprite) (s : State) : Byte :=
  if sp.attr.getLsbD 4 then s.ppu.obp1 else s.ppu.obp0

/-- The loop over a pixel's sprites (R280): the first one that covers the column with a non-zero index is the candidate
(R277, R278); it shows unless its priority bit yields to a non-zero background index (R279). -/
def overlay (line : Byte) (x : Nat) (bg : BitVec 2) (under : BitVec 2) (s : State) : List Sprite → BitVec 2
  | [] => under
  | sp :: rest =>
    if covers sp x then
      let ci := spriteIndex sp line x s
      if ci = 0 then overlay line x bg under s rest
      else if sp.attr.getLsbD 7 ∧ bg ≠ 0 then under
      else shade (spritePalette sp s) ci
    else overlay line x bg under s rest

/-! ## The line -/

/-- The background or window index under column `x`; 0 when LCDC[0] = 0 (R280). -/
def underIndex (line : Byte) (x : Nat) (s : State) : BitVec 2 :=
  if lcdcBit 0 s then
    if windowActive line s ∧ x + 7 ≥ s.ppu.wx.toNat then windowIndex x s else bgIndex line x s
  else 0

/-- The shade under column `x`: through BGP, or 0 when LCDC[0] = 0 (R280, D31). -/
def underShade (line : Byte) (x : Nat) (s : State) : BitVec 2 :=
  if lcdcBit 0 s then shade s.ppu.bgp (underIndex line x s) else 0

/-- One pixel of the line (R280). -/
def pixel (line : Byte) (sel : List Sprite) (s : State) (x : Nat) : BitVec 2 :=
  overlay line x (underIndex line x s) (underShade line x s) s sel

/-- The 160 shades of a line (R280). -/
def lineShades (line : Byte) (s : State) : List (BitVec 2) :=
  (List.range 160).map (pixel line (priorityOrder s.env.cfg.objPriority (selectedSprites line s)) s)

/-- `render_line(line)` (R270, R280): the framebuffer row, and the window line counter when the window was active
(R281). -/
def renderLine (line : Byte) (s : State) : State :=
  { s with
    ppu.framebuffer := s.ppu.framebuffer.set line.toNat (lineShades line s)
    ppu.windowLine := if windowActive line s then s.ppu.windowLine + 1 else s.ppu.windowLine }

end Sys2Proof.Machine
end

