-- ==== Sys2Proof/Machine/Ppu.lean ====
section
/-! DEFINITION. The PPU's timing state machine (`spec/60_exceptions.md` section 6, R260 to R269). -/

namespace Sys2Proof.Machine

/-- The STAT enable bit of an entered mode, as a bit of `stat_en` (R263); mode 3 has none. -/
def PpuMode.enableBit : PpuMode → Option Nat
  | .hblank => some 0
  | .vblank => some 1
  | .oamScan => some 2
  | .transfer => none

/-- Entering the mode raises a STAT request (R263). -/
def modeRequests (m : PpuMode) (s : State) : Bool :=
  match m.enableBit with
  | some i => s.ppu.statEn.getLsbD i
  | none => false

/-- `set_mode(m)` (R263). -/
def setMode (m : PpuMode) (s : State) : State :=
  let s1 := { s with ppu.mode := m }
  if modeRequests m s1 then request 1 s1 else s1

/-- The first dot with the display off (R267). -/
def lcdStop (s : State) : State :=
  { s with
    ppu.lcdRunning := false, ppu.ly := 0, ppu.dot := 0, ppu.mode := .hblank
    ppu.windowLine := 0, ppu.framebuffer := blankFramebuffer, ppu.offDots := 0 }

/-- Dots of a frame (R8, R266), and of a blank frame (R268). -/
def dotsPerFrame : Nat := 70224

/-- A tick with LCDC[7] = 0 (R261, R267, R268). -/
def tickOff (s : State) : State :=
  let s1 := if s.ppu.lcdRunning then lcdStop s else s
  let n := s1.ppu.offDots + 1
  if n = dotsPerFrame then
    { s1 with ppu.offDots := 0, ppu.frameEvent := s1.ppu.frameEvent + 1 }
  else { s1 with ppu.offDots := n }

/-- The display is just enabled: a new frame begins at line 0, mode 2 (R261, R267). -/
def lcdStart (s : State) : State :=
  setMode .oamScan { s with ppu.lcdRunning := true, ppu.ly := 0, ppu.dot := 0, ppu.offDots := 0 }

/-- The mode changes inside a visible line: mode 3 at dot 80, and at dot 252 the render and mode 0 (R261, R270). -/
def midLine (s : State) : State :=
  if s.ppu.ly.toNat < 144 then
    if s.ppu.dot = 80 then setMode .transfer s
    else if s.ppu.dot = 252 then setMode .hblank (renderLine s.ppu.ly s)
    else s
  else s

/-- The next line's number, with the frame boundary at 154 (R261, R262). -/
def nextLine (s : State) : State :=
  if s.ppu.ly + 1 = 154 then
    { s with ppu.dot := 0, ppu.ly := 0, ppu.windowLine := 0, ppu.frameEvent := s.ppu.frameEvent + 1 }
  else { s with ppu.dot := 0, ppu.ly := s.ppu.ly + 1 }

/-- The LYC check of a line change (R264): STAT[6] is bit 3 of `stat_en`. -/
def lycCheck (s : State) : State :=
  if s.ppu.ly = s.ppu.lyc ∧ s.ppu.statEn.getLsbD 3 then request 1 s else s

/-- The mode entered with a new line: V-blank with its request at 144, mode 2 on a visible line (R261, R265). -/
def enterLine (s : State) : State :=
  if s.ppu.ly = 144 then request 0 (setMode .vblank s)
  else if s.ppu.ly.toNat < 144 then setMode .oamScan s
  else s

/-- The end of a line at dot 456 (R261). -/
def endLine (s : State) : State :=
  if s.ppu.dot = 456 then enterLine (lycCheck (nextLine s)) else s

/-- A tick with LCDC[7] = 1 (R261). -/
def tickOn (s : State) : State :=
  let s1 := if s.ppu.lcdRunning then s else lcdStart s
  endLine (midLine { s1 with ppu.dot := s1.ppu.dot + 1 })

/-- `ppu_tick()` (R261): LCDC[7] is sampled at every tick (R267). -/
def ppuTick (s : State) : State := if lcdcBit 7 s then tickOn s else tickOff s

/-- `n` ticks in order. -/
def ppuTicks : Nat → State → State
  | 0, s => s
  | n + 1, s => ppuTicks n (ppuTick s)

/-- `ppu_advance(c)` (R260): `c` ticks; `frame_event` counts the boundaries this advance passes (R46, log entry 4). -/
def ppuAdvance (c : Nat) (s : State) : State := ppuTicks c { s with ppu.frameEvent := 0 }

end Sys2Proof.Machine
end

