-- ==== Sys2Proof/Machine/Cycle.lean ====
section
/-! DEFINITION. What a step does around an instruction: the fetch (R97), the boundary (R232), the interrupt check (R234),
the CPU step (R231), the system step (R230), the host's moves between steps (R285), and how an instruction is placed where
the next step fetches it. `Sys2Proof/Machine/Step.lean` only calls these. -/

namespace Sys2Proof.Machine

/-! ## Fetch -/

/-- `fetch8()` (R11): the byte at PC, and PC past it. -/
def fetch8 (s : State) : Byte × State :=
  let (v, s1) := memRead s.cpu.pc s
  (v, setPc (s1.cpu.pc + 1) s1)

/-- The opcode fetch (R97): with the HALT-bug latch set, PC is not advanced and the latch is cleared. -/
def fetchOpcode (s : State) : Byte × State :=
  let (op, s1) := memRead s.cpu.pc s
  if s1.cpu.haltBugLatch then (op, { s1 with cpu.haltBugLatch := false })
  else (op, setPc (s1.cpu.pc + 1) s1)

/-- Fetch and decode (R97): the opcode, and then as many bytes as its length takes, in address order. An undefined opcode
puts PC and the latch back. -/
def fetchInstr (s : State) : Instr × State :=
  let (op, s1) := fetchOpcode s
  if isIllegal op then
    (decodeBytes op 0 0, { s1 with cpu.pc := s.cpu.pc, cpu.haltBugLatch := s.cpu.haltBugLatch })
  else
    match opLength op with
    | 1 => (decodeBytes op 0 0, s1)
    | 2 =>
      let (b1, s2) := fetch8 s1
      (decodeBytes op b1 0, s2)
    | _ =>
      let (b1, s2) := fetch8 s1
      let (b2, s3) := fetch8 s2
      (decodeBytes op b1 b2, s3)

/-! ## After the instruction -/

/-- `boundary()` (R232): a pending EI comes one boundary nearer; at the last one IME is set. -/
def boundary (s : State) : State :=
  if s.cpu.eiDelay > 0 then
    if s.cpu.eiDelay - 1 = 0 then { s with cpu.eiDelay := 0, cpu.ime := true }
    else { s with cpu.eiDelay := s.cpu.eiDelay - 1 }
  else s

/-- The interrupt check at the end of a step that ran an instruction (R234): one dispatch, 20 more cycles. -/
def interruptCheck (s : State) : State :=
  if s.cpu.ime ∧ pendingAndEnabled s ≠ 0 then
    setCycles (s.cpu.cycles + dispatchCycles) (takeInterrupt s)
  else s

/-! ## The CPU step and the system step -/

/-- A step of a halted CPU (R231, R245). -/
def haltedStep (s : State) : State :=
  if pendingAndEnabled s = 0 then setCycles 4 s
  else
    let s1 := { s with cpu.halted := false }
    if s1.cpu.ime then setCycles dispatchCycles (takeInterrupt s1) else setCycles 4 s1

/-- A step that runs an instruction (R231). -/
def runInstr (s : State) : Result :=
  let (i, s1) := fetchInstr s
  match exec i s1 with
  | .next s2 => .next (interruptCheck (boundary s2))
  | .fault r => .fault r
  | .refused r => .refused r

/-- `cpu_step()` (R231); its `Ok(cycles)` is the field `cycles` of the next state. -/
def cpuStep (s : State) : Result :=
  if s.cpu.stopped then .next (setCycles 4 s)
  else if s.cpu.halted then .next (haltedStep s)
  else runInstr s

/-- `system_step()` (R230): the CPU step, then the PPU's advance by its cycles; a fault advances nothing. -/
def systemStep (s : State) : Result :=
  match cpuStep s with
  | .next s1 => .next (ppuAdvance s1.cpu.cycles s1)
  | .fault r => .fault r
  | .refused r => .refused r

/-! ## The host's moves between steps -/

/-- The IF bit of an external source (R240). -/
def ExtIrq.bit : ExtIrq → Nat
  | .timer => 2
  | .serial => 3
  | .input => 4

/-- One move of the host (R285). -/
def hostMove (m : HostMove) (s : State) : State :=
  match m with
  | .raise k => request k.bit s
  | .stopWake => { s with cpu.stopped := false }

/-- The moves the host makes before this step, in order; the moves of later steps stay. -/
def takeMoves (s : State) : State :=
  match s.env.moves with
  | [] => s
  | ms :: later => ms.foldl (fun t m => hostMove m t) { s with env.moves := later }

/-! ## Placing an instruction -/

/-- An address whose byte can be any byte: storage, or a collaborator's, which the environment may promise. -/
def placeable (a : Word) : Bool :=
  match route a with
  | .storage _ => true
  | .ext _ => true
  | .reg _ => false

/-- The byte at `a` made `v`: stored, or promised of the collaborator that owns `a`. -/
def placeByte (a : Word) (v : Byte) (s : State) : State :=
  match route a with
  | .storage k => { s with bus.mem := Memory.write s.bus.mem k v }
  | .ext _ => { s with bus.ext := Memory.promise s.bus.ext a.toNat v }
  | .reg _ => s

/-- Where an instruction of up to three bytes is placed: at PC, or in WRAM where a core register lies in the way. -/
def placeAddr (s : State) : Word :=
  if placeable s.cpu.pc && placeable (s.cpu.pc + 1) && placeable (s.cpu.pc + 2) then s.cpu.pc else 0xC000

/-- The three bytes of a table word placed where the next step fetches, with the CPU running and no byte to be repeated. -/
def placeWord (s : State) (nbits w : Nat) : State :=
  let (b0, b1, b2) := tableBytes nbits (w % 2 ^ nbits)
  let a := placeAddr s
  let s1 := { s with cpu.pc := a, cpu.halted := false, cpu.stopped := false, cpu.haltBugLatch := false }
  placeByte (a + 2) b2 (placeByte (a + 1) b1 (placeByte a b0 s1))

end Sys2Proof.Machine
end

