-- ==== Sys2Proof/Machine/Step.lean ====
section
/-! DEFINITION. One step of the machine, and a state with a given instruction as its next. -/

namespace Sys2Proof.Machine

/-- The host's moves before the step (R285), then one system step (R230). -/
def step (s : State) : Host.Outcome State Fault Refusal := systemStep (takeMoves s)

/-- `s` with the instruction of the table word `w` where the next step fetches (log entries 6 and 7). -/
def State.withFetchWord (s : State) (nbits w : Nat) : State := placeWord s nbits w

end Sys2Proof.Machine
end

