-- ==== Sys2Proof/Machine/Driver.lean ====
section
/-! DEFINITION. The driver loop that owns the machine (R239, R285, R286): what it does with a fault, and when a run
ends. -/

namespace Sys2Proof.Machine

/-- The state a faulting step leaves: as it was before the step (R236), the host's moves made, the fault in the log
(R239). The step has read one byte, its opcode at PC: where a collaborator's open answer was drawn for it, that draw has
been made and is counted, so that the next open read is a draw of its own (R64, R285, log entries 3 and 11). -/
def afterFault (r : Fault) (s : State) : State :=
  let s1 := takeMoves s
  let (_, s2) := memRead s1.cpu.pc s1
  { s2 with env.faultLog := s2.env.faultLog ++ [r] }

/-- The host move `skip_invalid` (R239, R285): `PC <- PC + 1`, no cycle and no PPU dot. -/
def skipInvalid (s : State) : State := setPc (s.cpu.pc + 1) s

/-- What the driver has after one step. -/
inductive DriverStep where
  /-- The run goes on; the step's PPU advance passed so many frame boundaries (R285). -/
  | goOn (s : State) (boundaries : Nat)
  /-- The run has ended with a fault, under the policy `halt` or `abort` (R286). -/
  | faulted (s : State)
  /-- The model has no meaning for the instruction. -/
  | refused (r : Refusal)
deriving DecidableEq, Repr

/-- One step of the driver under the run's fault policy (R239). A skipped fault makes no PPU advance. -/
def driverStep (s : State) : DriverStep :=
  match step s with
  | .next t => .goOn t t.ppu.frameEvent
  | .fault r =>
    match s.env.cfg.faultPolicy with
    | .skip => .goOn (skipInvalid (afterFault r s)) 0
    | .halt => .faulted (afterFault r s)
    | .abort => .faulted (afterFault r s)
  | .refused r => .refused r

/-- How a run of the driver stands. -/
inductive RunEnd where
  /-- The N-th frame boundary has been passed: the observation of R286. -/
  | frameBoundary (s : State)
  | faulted (s : State)
  | refused (r : Refusal)
  /-- No end yet after the steps that were allowed. -/
  | running (s : State)
deriving DecidableEq, Repr

/-- At most `fuel` steps towards the `frames`-th frame boundary from here (R286). -/
def driverRun : (fuel frames : Nat) → State → RunEnd
  | 0, _, s => .running s
  | fuel + 1, frames, s =>
    match driverStep s with
    | .goOn t boundaries =>
      if frames ≤ boundaries then .frameBoundary t else driverRun fuel (frames - boundaries) t
    | .faulted t => .faulted t
    | .refused r => .refused r

end Sys2Proof.Machine
end

