-- ==== Sys2Proof/Safety.lean ====
section
/-! DEFINITION. What counts as a legal state of the machine, and as a safe run. Each part of the invariant is a sentence
of the spec about every reachable state; the rules are named at the parts. -/

namespace Sys2Proof.Machine

/-- The CPU's part: the low nibble of F is 0 (R24), `ei_delay` is 0, 1 or 2 (R28), the CPU is not both halted and stopped
(R31), and the latch is only set where the parameter `halt_bug` is true (R32). -/
abbrev CpuInv (s : State) : Prop :=
  s.cpu.f.extractLsb' 0 4 = 0#4 ∧ s.cpu.eiDelay ≤ 2 ∧ ¬(s.cpu.halted = true ∧ s.cpu.stopped = true) ∧
    (s.cpu.haltBugLatch = true → s.env.cfg.haltBug = true)

/-- The mode that the line and the dot determine while the display runs (R42). -/
def modeAt (ly : Byte) (dot : Nat) : PpuMode :=
  if ly.toNat ≥ 144 then .vblank
  else if dot < 80 then .oamScan
  else if dot < 252 then .transfer
  else .hblank

/-- The most window lines a frame can have drawn at a line and dot: one for each line rendered so far (R43, R281). -/
def windowLineBound (ly : Byte) (dot : Nat) : Nat :=
  if ly.toNat ≥ 144 then 144 else if dot < 252 then ly.toNat else ly.toNat + 1

/-- The PPU's part: the ranges of LY, `dot` and `off_dots` (R36, R42, R44), the mode (R42) and the window line counter
while the display runs, the held values while it does not (R41, R267), and the shape of the framebuffer (R45). -/
abbrev PpuInv (s : State) : Prop :=
  s.ppu.ly.toNat ≤ 153 ∧ s.ppu.dot ≤ 455 ∧ s.ppu.offDots < dotsPerFrame ∧
    (s.ppu.lcdRunning = true → s.ppu.mode = modeAt s.ppu.ly s.ppu.dot) ∧
    (s.ppu.lcdRunning = false → s.ppu.ly = 0 ∧ s.ppu.dot = 0 ∧ s.ppu.mode = .hblank ∧
      s.ppu.framebuffer = blankFramebuffer) ∧
    s.ppu.windowLine.toNat ≤ windowLineBound s.ppu.ly s.ppu.dot ∧
    s.ppu.framebuffer.length = 144 ∧ ∀ row ∈ s.ppu.framebuffer, row.length = 160

/-- The storage is in canonical form. -/
abbrev BusInv (s : State) : Prop := Memory.wf s.bus.mem = true

/-- The invariant of the machine. -/
abbrev Inv (s : State) : Prop := CpuInv s ∧ PpuInv s ∧ BusInv s

/-- A run of `n` steps is safe when it ends in a state: no step of it faults. -/
def SafeRun (n : Nat) (s : State) : Prop :=
  match n with
  | 0 => True
  | k + 1 => ∃ t, step s = .next t ∧ SafeRun k t

end Sys2Proof.Machine
end

