-- ==== Sys2Proof/Certificates/Slice0/Forms.lean ====
section
/-! DEFINITION. The vocabulary of the statements: the codes of the operands (R92 to R96), the instructions by their operand
forms (each function names the constructors of one row group of the opcode maps R104 and R105), and the tables that
whole-machine statements quantify over. -/

namespace Sys2Proof.Forms

open Sys2Proof.Machine

/-! ## Codes and fields -/

/-- The code of a register (R92). -/
def regCode : Reg8 → BitVec 3
  | .b => 0
  | .c => 1
  | .d => 2
  | .e => 3
  | .h => 4
  | .l => 5
  | .a => 7

/-- The code of a register or of the byte at HL (R92). -/
def placeCode : Place8 → BitVec 3
  | .reg r => regCode r
  | .atHl => 6

/-- The code `p` of the `rp` table (R93). -/
def pairCode : Pair → BitVec 2
  | .bc => 0
  | .de => 1
  | .hl => 2
  | .sp => 3

/-- The code `p` of the `rp2` table (R93). -/
def stackCode : StackPair → BitVec 2
  | .bc => 0
  | .de => 1
  | .hl => 2
  | .af => 3

/-- The code of a condition (R94). -/
def condCode : Cond → BitVec 2
  | .nz => 0
  | .z => 1
  | .nc => 2
  | .c => 3

/-- The code of an ALU operation (R95). -/
def aluCode : AluOp → BitVec 3
  | .add => 0
  | .adc => 1
  | .sub => 2
  | .sbc => 3
  | .and => 4
  | .xor => 5
  | .or => 6
  | .cp => 7

/-- The code of a rotate or shift (R96). -/
def rotCode : RotOp → BitVec 3
  | .rlc => 0
  | .rrc => 1
  | .rl => 2
  | .rr => 3
  | .sla => 4
  | .sra => 5
  | .swap => 6
  | .srl => 7

/-- A byte from its fields `x`, `y` and `z` (R92). -/
def fieldsXYZ (x : BitVec 2) (y z : BitVec 3) : Byte := x ++ y ++ z

/-- A byte from its fields `x`, `p`, `q` and `z` (R92). -/
def fieldsXPQZ (x p : BitVec 2) (q : BitVec 1) (z : BitVec 3) : Byte := x ++ p ++ q ++ z

/-! ## The instructions by their operand forms -/

/-- `LD r, r'` (R120). -/
def ldRegReg (dst r : Reg8) : Instr :=
  match dst, r with
  | .b, .b => .ld_b_b
  | .b, .c => .ld_b_c
  | .b, .d => .ld_b_d
  | .b, .e => .ld_b_e
  | .b, .h => .ld_b_h
  | .b, .l => .ld_b_l
  | .b, .a => .ld_b_a
  | .c, .b => .ld_c_b
  | .c, .c => .ld_c_c
  | .c, .d => .ld_c_d
  | .c, .e => .ld_c_e
  | .c, .h => .ld_c_h
  | .c, .l => .ld_c_l
  | .c, .a => .ld_c_a
  | .d, .b => .ld_d_b
  | .d, .c => .ld_d_c
  | .d, .d => .ld_d_d
  | .d, .e => .ld_d_e
  | .d, .h => .ld_d_h
  | .d, .l => .ld_d_l
  | .d, .a => .ld_d_a
  | .e, .b => .ld_e_b
  | .e, .c => .ld_e_c
  | .e, .d => .ld_e_d
  | .e, .e => .ld_e_e
  | .e, .h => .ld_e_h
  | .e, .l => .ld_e_l
  | .e, .a => .ld_e_a
  | .h, .b => .ld_h_b
  | .h, .c => .ld_h_c
  | .h, .d => .ld_h_d
  | .h, .e => .ld_h_e
  | .h, .h => .ld_h_h
  | .h, .l => .ld_h_l
  | .h, .a => .ld_h_a
  | .l, .b => .ld_l_b
  | .l, .c => .ld_l_c
  | .l, .d => .ld_l_d
  | .l, .e => .ld_l_e
  | .l, .h => .ld_l_h
  | .l, .l => .ld_l_l
  | .l, .a => .ld_l_a
  | .a, .b => .ld_a_b
  | .a, .c => .ld_a_c
  | .a, .d => .ld_a_d
  | .a, .e => .ld_a_e
  | .a, .h => .ld_a_h
  | .a, .l => .ld_a_l
  | .a, .a => .ld_a_a

/-- `LD r, (HL)` (R121). -/
def ldRegHl (dst : Reg8) : Instr :=
  match dst with
  | .b => .ld_b_atHl
  | .c => .ld_c_atHl
  | .d => .ld_d_atHl
  | .e => .ld_e_atHl
  | .h => .ld_h_atHl
  | .l => .ld_l_atHl
  | .a => .ld_a_atHl

/-- `LD (HL), r` (R122). -/
def ldHlReg (r : Reg8) : Instr :=
  match r with
  | .b => .ld_atHl_b
  | .c => .ld_atHl_c
  | .d => .ld_atHl_d
  | .e => .ld_atHl_e
  | .h => .ld_atHl_h
  | .l => .ld_atHl_l
  | .a => .ld_atHl_a

/-- `LD r, d8` (R123). -/
def ldRegImm (dst : Reg8) (v : Byte) : Instr :=
  match dst with
  | .b => .ld_b_d8 v
  | .c => .ld_c_d8 v
  | .d => .ld_d_d8 v
  | .e => .ld_e_d8 v
  | .h => .ld_h_d8 v
  | .l => .ld_l_d8 v
  | .a => .ld_a_d8 v

/-- `LD rr, d16` (R137). -/
def ldPairImm (p : Pair) (v : Word) : Instr :=
  match p with
  | .bc => .ld_bc_d16 v
  | .de => .ld_de_d16 v
  | .hl => .ld_hl_d16 v
  | .sp => .ld_sp_d16 v

/-- `PUSH rr` (R142). -/
def push (p : StackPair) : Instr :=
  match p with
  | .bc => .push_bc
  | .de => .push_de
  | .hl => .push_hl
  | .af => .push_af

/-- `POP rr` (R143). -/
def pop (p : StackPair) : Instr :=
  match p with
  | .bc => .pop_bc
  | .de => .pop_de
  | .hl => .pop_hl
  | .af => .pop_af

/-- The ALU operations on A by operation and operand (R148, R150 to R157). -/
def alu (op : AluOp) (src : Src8) : Instr :=
  match op, src with
  | .add, .reg .b => .add_a_b
  | .add, .reg .c => .add_a_c
  | .add, .reg .d => .add_a_d
  | .add, .reg .e => .add_a_e
  | .add, .reg .h => .add_a_h
  | .add, .reg .l => .add_a_l
  | .add, .atHl => .add_a_atHl
  | .add, .reg .a => .add_a_a
  | .add, .imm v => .add_a_d8 v
  | .adc, .reg .b => .adc_a_b
  | .adc, .reg .c => .adc_a_c
  | .adc, .reg .d => .adc_a_d
  | .adc, .reg .e => .adc_a_e
  | .adc, .reg .h => .adc_a_h
  | .adc, .reg .l => .adc_a_l
  | .adc, .atHl => .adc_a_atHl
  | .adc, .reg .a => .adc_a_a
  | .adc, .imm v => .adc_a_d8 v
  | .sub, .reg .b => .sub_b
  | .sub, .reg .c => .sub_c
  | .sub, .reg .d => .sub_d
  | .sub, .reg .e => .sub_e
  | .sub, .reg .h => .sub_h
  | .sub, .reg .l => .sub_l
  | .sub, .atHl => .sub_atHl
  | .sub, .reg .a => .sub_a
  | .sub, .imm v => .sub_d8 v
  | .sbc, .reg .b => .sbc_a_b
  | .sbc, .reg .c => .sbc_a_c
  | .sbc, .reg .d => .sbc_a_d
  | .sbc, .reg .e => .sbc_a_e
  | .sbc, .reg .h => .sbc_a_h
  | .sbc, .reg .l => .sbc_a_l
  | .sbc, .atHl => .sbc_a_atHl
  | .sbc, .reg .a => .sbc_a_a
  | .sbc, .imm v => .sbc_a_d8 v
  | .and, .reg .b => .and_b
  | .and, .reg .c => .and_c
  | .and, .reg .d => .and_d
  | .and, .reg .e => .and_e
  | .and, .reg .h => .and_h
  | .and, .reg .l => .and_l
  | .and, .atHl => .and_atHl
  | .and, .reg .a => .and_a
  | .and, .imm v => .and_d8 v
  | .xor, .reg .b => .xor_b
  | .xor, .reg .c => .xor_c
  | .xor, .reg .d => .xor_d
  | .xor, .reg .e => .xor_e
  | .xor, .reg .h => .xor_h
  | .xor, .reg .l => .xor_l
  | .xor, .atHl => .xor_atHl
  | .xor, .reg .a => .xor_a
  | .xor, .imm v => .xor_d8 v
  | .or, .reg .b => .or_b
  | .or, .reg .c => .or_c
  | .or, .reg .d => .or_d
  | .or, .reg .e => .or_e
  | .or, .reg .h => .or_h
  | .or, .reg .l => .or_l
  | .or, .atHl => .or_atHl
  | .or, .reg .a => .or_a
  | .or, .imm v => .or_d8 v
  | .cp, .reg .b => .cp_b
  | .cp, .reg .c => .cp_c
  | .cp, .reg .d => .cp_d
  | .cp, .reg .e => .cp_e
  | .cp, .reg .h => .cp_h
  | .cp, .reg .l => .cp_l
  | .cp, .atHl => .cp_atHl
  | .cp, .reg .a => .cp_a
  | .cp, .imm v => .cp_d8 v

/-- `INC` of an 8-bit operand (R158). -/
def inc (x : Place8) : Instr :=
  match x with
  | .reg .b => .inc_b
  | .reg .c => .inc_c
  | .reg .d => .inc_d
  | .reg .e => .inc_e
  | .reg .h => .inc_h
  | .reg .l => .inc_l
  | .atHl => .inc_atHl
  | .reg .a => .inc_a

/-- `DEC` of an 8-bit operand (R159). -/
def dec (x : Place8) : Instr :=
  match x with
  | .reg .b => .dec_b
  | .reg .c => .dec_c
  | .reg .d => .dec_d
  | .reg .e => .dec_e
  | .reg .h => .dec_h
  | .reg .l => .dec_l
  | .atHl => .dec_atHl
  | .reg .a => .dec_a

/-- `INC rr` (R170). -/
def incPair (p : Pair) : Instr :=
  match p with
  | .bc => .inc_bc
  | .de => .inc_de
  | .hl => .inc_hl
  | .sp => .inc_sp

/-- `DEC rr` (R171). -/
def decPair (p : Pair) : Instr :=
  match p with
  | .bc => .dec_bc
  | .de => .dec_de
  | .hl => .dec_hl
  | .sp => .dec_sp

/-- `ADD HL, rr` (R172). -/
def addHl (p : Pair) : Instr :=
  match p with
  | .bc => .add_hl_bc
  | .de => .add_hl_de
  | .hl => .add_hl_hl
  | .sp => .add_hl_sp

/-- The CB rotates and shifts (R184 to R191). -/
def rot (op : RotOp) (x : Place8) : Instr :=
  match op, x with
  | .rlc, .reg .b => .rlc_b
  | .rlc, .reg .c => .rlc_c
  | .rlc, .reg .d => .rlc_d
  | .rlc, .reg .e => .rlc_e
  | .rlc, .reg .h => .rlc_h
  | .rlc, .reg .l => .rlc_l
  | .rlc, .atHl => .rlc_atHl
  | .rlc, .reg .a => .rlc_a
  | .rrc, .reg .b => .rrc_b
  | .rrc, .reg .c => .rrc_c
  | .rrc, .reg .d => .rrc_d
  | .rrc, .reg .e => .rrc_e
  | .rrc, .reg .h => .rrc_h
  | .rrc, .reg .l => .rrc_l
  | .rrc, .atHl => .rrc_atHl
  | .rrc, .reg .a => .rrc_a
  | .rl, .reg .b => .rl_b
  | .rl, .reg .c => .rl_c
  | .rl, .reg .d => .rl_d
  | .rl, .reg .e => .rl_e
  | .rl, .reg .h => .rl_h
  | .rl, .reg .l => .rl_l
  | .rl, .atHl => .rl_atHl
  | .rl, .reg .a => .rl_a
  | .rr, .reg .b => .rr_b
  | .rr, .reg .c => .rr_c
  | .rr, .reg .d => .rr_d
  | .rr, .reg .e => .rr_e
  | .rr, .reg .h => .rr_h
  | .rr, .reg .l => .rr_l
  | .rr, .atHl => .rr_atHl
  | .rr, .reg .a => .rr_a
  | .sla, .reg .b => .sla_b
  | .sla, .reg .c => .sla_c
  | .sla, .reg .d => .sla_d
  | .sla, .reg .e => .sla_e
  | .sla, .reg .h => .sla_h
  | .sla, .reg .l => .sla_l
  | .sla, .atHl => .sla_atHl
  | .sla, .reg .a => .sla_a
  | .sra, .reg .b => .sra_b
  | .sra, .reg .c => .sra_c
  | .sra, .reg .d => .sra_d
  | .sra, .reg .e => .sra_e
  | .sra, .reg .h => .sra_h
  | .sra, .reg .l => .sra_l
  | .sra, .atHl => .sra_atHl
  | .sra, .reg .a => .sra_a
  | .swap, .reg .b => .swap_b
  | .swap, .reg .c => .swap_c
  | .swap, .reg .d => .swap_d
  | .swap, .reg .e => .swap_e
  | .swap, .reg .h => .swap_h
  | .swap, .reg .l => .swap_l
  | .swap, .atHl => .swap_atHl
  | .swap, .reg .a => .swap_a
  | .srl, .reg .b => .srl_b
  | .srl, .reg .c => .srl_c
  | .srl, .reg .d => .srl_d
  | .srl, .reg .e => .srl_e
  | .srl, .reg .h => .srl_h
  | .srl, .reg .l => .srl_l
  | .srl, .atHl => .srl_atHl
  | .srl, .reg .a => .srl_a

/-- `BIT b, s` (R192). -/
def bit (b : Fin 8) (x : Place8) : Instr :=
  match b, x with
  | 0, .reg .b => .bit_0_b
  | 0, .reg .c => .bit_0_c
  | 0, .reg .d => .bit_0_d
  | 0, .reg .e => .bit_0_e
  | 0, .reg .h => .bit_0_h
  | 0, .reg .l => .bit_0_l
  | 0, .atHl => .bit_0_atHl
  | 0, .reg .a => .bit_0_a
  | 1, .reg .b => .bit_1_b
  | 1, .reg .c => .bit_1_c
  | 1, .reg .d => .bit_1_d
  | 1, .reg .e => .bit_1_e
  | 1, .reg .h => .bit_1_h
  | 1, .reg .l => .bit_1_l
  | 1, .atHl => .bit_1_atHl
  | 1, .reg .a => .bit_1_a
  | 2, .reg .b => .bit_2_b
  | 2, .reg .c => .bit_2_c
  | 2, .reg .d => .bit_2_d
  | 2, .reg .e => .bit_2_e
  | 2, .reg .h => .bit_2_h
  | 2, .reg .l => .bit_2_l
  | 2, .atHl => .bit_2_atHl
  | 2, .reg .a => .bit_2_a
  | 3, .reg .b => .bit_3_b
  | 3, .reg .c => .bit_3_c
  | 3, .reg .d => .bit_3_d
  | 3, .reg .e => .bit_3_e
  | 3, .reg .h => .bit_3_h
  | 3, .reg .l => .bit_3_l
  | 3, .atHl => .bit_3_atHl
  | 3, .reg .a => .bit_3_a
  | 4, .reg .b => .bit_4_b
  | 4, .reg .c => .bit_4_c
  | 4, .reg .d => .bit_4_d
  | 4, .reg .e => .bit_4_e
  | 4, .reg .h => .bit_4_h
  | 4, .reg .l => .bit_4_l
  | 4, .atHl => .bit_4_atHl
  | 4, .reg .a => .bit_4_a
  | 5, .reg .b => .bit_5_b
  | 5, .reg .c => .bit_5_c
  | 5, .reg .d => .bit_5_d
  | 5, .reg .e => .bit_5_e
  | 5, .reg .h => .bit_5_h
  | 5, .reg .l => .bit_5_l
  | 5, .atHl => .bit_5_atHl
  | 5, .reg .a => .bit_5_a
  | 6, .reg .b => .bit_6_b
  | 6, .reg .c => .bit_6_c
  | 6, .reg .d => .bit_6_d
  | 6, .reg .e => .bit_6_e
  | 6, .reg .h => .bit_6_h
  | 6, .reg .l => .bit_6_l
  | 6, .atHl => .bit_6_atHl
  | 6, .reg .a => .bit_6_a
  | 7, .reg .b => .bit_7_b
  | 7, .reg .c => .bit_7_c
  | 7, .reg .d => .bit_7_d
  | 7, .reg .e => .bit_7_e
  | 7, .reg .h => .bit_7_h
  | 7, .reg .l => .bit_7_l
  | 7, .atHl => .bit_7_atHl
  | 7, .reg .a => .bit_7_a

/-- `RES b, s` (R193). -/
def res (b : Fin 8) (x : Place8) : Instr :=
  match b, x with
  | 0, .reg .b => .res_0_b
  | 0, .reg .c => .res_0_c
  | 0, .reg .d => .res_0_d
  | 0, .reg .e => .res_0_e
  | 0, .reg .h => .res_0_h
  | 0, .reg .l => .res_0_l
  | 0, .atHl => .res_0_atHl
  | 0, .reg .a => .res_0_a
  | 1, .reg .b => .res_1_b
  | 1, .reg .c => .res_1_c
  | 1, .reg .d => .res_1_d
  | 1, .reg .e => .res_1_e
  | 1, .reg .h => .res_1_h
  | 1, .reg .l => .res_1_l
  | 1, .atHl => .res_1_atHl
  | 1, .reg .a => .res_1_a
  | 2, .reg .b => .res_2_b
  | 2, .reg .c => .res_2_c
  | 2, .reg .d => .res_2_d
  | 2, .reg .e => .res_2_e
  | 2, .reg .h => .res_2_h
  | 2, .reg .l => .res_2_l
  | 2, .atHl => .res_2_atHl
  | 2, .reg .a => .res_2_a
  | 3, .reg .b => .res_3_b
  | 3, .reg .c => .res_3_c
  | 3, .reg .d => .res_3_d
  | 3, .reg .e => .res_3_e
  | 3, .reg .h => .res_3_h
  | 3, .reg .l => .res_3_l
  | 3, .atHl => .res_3_atHl
  | 3, .reg .a => .res_3_a
  | 4, .reg .b => .res_4_b
  | 4, .reg .c => .res_4_c
  | 4, .reg .d => .res_4_d
  | 4, .reg .e => .res_4_e
  | 4, .reg .h => .res_4_h
  | 4, .reg .l => .res_4_l
  | 4, .atHl => .res_4_atHl
  | 4, .reg .a => .res_4_a
  | 5, .reg .b => .res_5_b
  | 5, .reg .c => .res_5_c
  | 5, .reg .d => .res_5_d
  | 5, .reg .e => .res_5_e
  | 5, .reg .h => .res_5_h
  | 5, .reg .l => .res_5_l
  | 5, .atHl => .res_5_atHl
  | 5, .reg .a => .res_5_a
  | 6, .reg .b => .res_6_b
  | 6, .reg .c => .res_6_c
  | 6, .reg .d => .res_6_d
  | 6, .reg .e => .res_6_e
  | 6, .reg .h => .res_6_h
  | 6, .reg .l => .res_6_l
  | 6, .atHl => .res_6_atHl
  | 6, .reg .a => .res_6_a
  | 7, .reg .b => .res_7_b
  | 7, .reg .c => .res_7_c
  | 7, .reg .d => .res_7_d
  | 7, .reg .e => .res_7_e
  | 7, .reg .h => .res_7_h
  | 7, .reg .l => .res_7_l
  | 7, .atHl => .res_7_atHl
  | 7, .reg .a => .res_7_a

/-- `SET b, s` (R194). -/
def set (b : Fin 8) (x : Place8) : Instr :=
  match b, x with
  | 0, .reg .b => .set_0_b
  | 0, .reg .c => .set_0_c
  | 0, .reg .d => .set_0_d
  | 0, .reg .e => .set_0_e
  | 0, .reg .h => .set_0_h
  | 0, .reg .l => .set_0_l
  | 0, .atHl => .set_0_atHl
  | 0, .reg .a => .set_0_a
  | 1, .reg .b => .set_1_b
  | 1, .reg .c => .set_1_c
  | 1, .reg .d => .set_1_d
  | 1, .reg .e => .set_1_e
  | 1, .reg .h => .set_1_h
  | 1, .reg .l => .set_1_l
  | 1, .atHl => .set_1_atHl
  | 1, .reg .a => .set_1_a
  | 2, .reg .b => .set_2_b
  | 2, .reg .c => .set_2_c
  | 2, .reg .d => .set_2_d
  | 2, .reg .e => .set_2_e
  | 2, .reg .h => .set_2_h
  | 2, .reg .l => .set_2_l
  | 2, .atHl => .set_2_atHl
  | 2, .reg .a => .set_2_a
  | 3, .reg .b => .set_3_b
  | 3, .reg .c => .set_3_c
  | 3, .reg .d => .set_3_d
  | 3, .reg .e => .set_3_e
  | 3, .reg .h => .set_3_h
  | 3, .reg .l => .set_3_l
  | 3, .atHl => .set_3_atHl
  | 3, .reg .a => .set_3_a
  | 4, .reg .b => .set_4_b
  | 4, .reg .c => .set_4_c
  | 4, .reg .d => .set_4_d
  | 4, .reg .e => .set_4_e
  | 4, .reg .h => .set_4_h
  | 4, .reg .l => .set_4_l
  | 4, .atHl => .set_4_atHl
  | 4, .reg .a => .set_4_a
  | 5, .reg .b => .set_5_b
  | 5, .reg .c => .set_5_c
  | 5, .reg .d => .set_5_d
  | 5, .reg .e => .set_5_e
  | 5, .reg .h => .set_5_h
  | 5, .reg .l => .set_5_l
  | 5, .atHl => .set_5_atHl
  | 5, .reg .a => .set_5_a
  | 6, .reg .b => .set_6_b
  | 6, .reg .c => .set_6_c
  | 6, .reg .d => .set_6_d
  | 6, .reg .e => .set_6_e
  | 6, .reg .h => .set_6_h
  | 6, .reg .l => .set_6_l
  | 6, .atHl => .set_6_atHl
  | 6, .reg .a => .set_6_a
  | 7, .reg .b => .set_7_b
  | 7, .reg .c => .set_7_c
  | 7, .reg .d => .set_7_d
  | 7, .reg .e => .set_7_e
  | 7, .reg .h => .set_7_h
  | 7, .reg .l => .set_7_l
  | 7, .atHl => .set_7_atHl
  | 7, .reg .a => .set_7_a

/-- `JP cc, a16` (R202). -/
def jpCc (cc : Cond) (a : Word) : Instr :=
  match cc with
  | .nz => .jp_nz_a16 a
  | .z => .jp_z_a16 a
  | .nc => .jp_nc_a16 a
  | .c => .jp_c_a16 a

/-- `JR cc, e8` (R205). -/
def jrCc (cc : Cond) (e : Byte) : Instr :=
  match cc with
  | .nz => .jr_nz_e8 e
  | .z => .jr_z_e8 e
  | .nc => .jr_nc_e8 e
  | .c => .jr_c_e8 e

/-- `CALL cc, a16` (R207). -/
def callCc (cc : Cond) (a : Word) : Instr :=
  match cc with
  | .nz => .call_nz_a16 a
  | .z => .call_z_a16 a
  | .nc => .call_nc_a16 a
  | .c => .call_c_a16 a

/-- `RET cc` (R209). -/
def retCc (cc : Cond) : Instr :=
  match cc with
  | .nz => .ret_nz
  | .z => .ret_z
  | .nc => .ret_nc
  | .c => .ret_c

/-- `RST 8*y` (R211). -/
def rst (y : Fin 8) : Instr :=
  match y with
  | 0 => .rst_00
  | 1 => .rst_08
  | 2 => .rst_10
  | 3 => .rst_18
  | 4 => .rst_20
  | 5 => .rst_28
  | 6 => .rst_30
  | 7 => .rst_38

/-- The eleven undefined opcodes (R106, R225). -/
def undefined : List (Byte × Instr) :=
  [(0xD3, .undefined_d3),
    (0xDB, .undefined_db),
    (0xDD, .undefined_dd),
    (0xE3, .undefined_e3),
    (0xE4, .undefined_e4),
    (0xEB, .undefined_eb),
    (0xEC, .undefined_ec),
    (0xED, .undefined_ed),
    (0xF4, .undefined_f4),
    (0xFC, .undefined_fc),
    (0xFD, .undefined_fd)]

/-! ## The bytes of the grouped forms -/

/-- The bytes of an ALU operation (R148). -/
def aluBytes (op : AluOp) (src : Src8) : List Byte :=
  match src with
  | .reg r => [fieldsXYZ 2 (aluCode op) (regCode r)]
  | .atHl => [fieldsXYZ 2 (aluCode op) 6]
  | .imm v => [fieldsXYZ 3 (aluCode op) 6, v]

/-- The bytes of a CB instruction (R96, R178). -/
def cbBytes (x : BitVec 2) (y : BitVec 3) (z : Place8) : List Byte := [0xCB, fieldsXYZ x y (placeCode z)]

/-- One cost for a register operand, another for the other forms. -/
def costBySrc (forReg other : Nat) (src : Src8) : Nat :=
  match src with
  | .reg _ => forReg
  | .atHl => other
  | .imm _ => other

/-- One cost for a register operand, another for the byte at HL. -/
def costByPlace (forReg atHl : Nat) (x : Place8) : Nat :=
  match x with
  | .reg _ => forReg
  | .atHl => atHl

/-! ## The cycle tables (R310, R311) -/

/-- Row 0x of the table of R310. -/
def costRow0 : List (Nat × Nat) :=
  [(4, 4), (12, 12), (8, 8), (8, 8), (4, 4), (4, 4), (8, 8), (4, 4),
    (20, 20), (8, 8), (8, 8), (8, 8), (4, 4), (4, 4), (8, 8), (4, 4)]

/-- Row 1x of the table of R310. -/
def costRow1 : List (Nat × Nat) :=
  [(4, 4), (12, 12), (8, 8), (8, 8), (4, 4), (4, 4), (8, 8), (4, 4),
    (12, 12), (8, 8), (8, 8), (8, 8), (4, 4), (4, 4), (8, 8), (4, 4)]

/-- Row 2x of the table of R310. -/
def costRow2 : List (Nat × Nat) :=
  [(12, 8), (12, 12), (8, 8), (8, 8), (4, 4), (4, 4), (8, 8), (4, 4),
    (12, 8), (8, 8), (8, 8), (8, 8), (4, 4), (4, 4), (8, 8), (4, 4)]

/-- Row 3x of the table of R310. -/
def costRow3 : List (Nat × Nat) :=
  [(12, 8), (12, 12), (8, 8), (8, 8), (12, 12), (12, 12), (12, 12), (4, 4),
    (12, 8), (8, 8), (8, 8), (8, 8), (4, 4), (4, 4), (8, 8), (4, 4)]

/-- Row 4x of the table of R310. -/
def costRow4 : List (Nat × Nat) :=
  [(4, 4), (4, 4), (4, 4), (4, 4), (4, 4), (4, 4), (8, 8), (4, 4),
    (4, 4), (4, 4), (4, 4), (4, 4), (4, 4), (4, 4), (8, 8), (4, 4)]

/-- Row 5x of the table of R310. -/
def costRow5 : List (Nat × Nat) :=
  [(4, 4), (4, 4), (4, 4), (4, 4), (4, 4), (4, 4), (8, 8), (4, 4),
    (4, 4), (4, 4), (4, 4), (4, 4), (4, 4), (4, 4), (8, 8), (4, 4)]

/-- Row 6x of the table of R310. -/
def costRow6 : List (Nat × Nat) :=
  [(4, 4), (4, 4), (4, 4), (4, 4), (4, 4), (4, 4), (8, 8), (4, 4),
    (4, 4), (4, 4), (4, 4), (4, 4), (4, 4), (4, 4), (8, 8), (4, 4)]

/-- Row 7x of the table of R310. -/
def costRow7 : List (Nat × Nat) :=
  [(8, 8), (8, 8), (8, 8), (8, 8), (8, 8), (8, 8), (4, 4), (8, 8),
    (4, 4), (4, 4), (4, 4), (4, 4), (4, 4), (4, 4), (8, 8), (4, 4)]

/-- Row 8x of the table of R310. -/
def costRow8 : List (Nat × Nat) :=
  [(4, 4), (4, 4), (4, 4), (4, 4), (4, 4), (4, 4), (8, 8), (4, 4),
    (4, 4), (4, 4), (4, 4), (4, 4), (4, 4), (4, 4), (8, 8), (4, 4)]

/-- Row 9x of the table of R310. -/
def costRow9 : List (Nat × Nat) :=
  [(4, 4), (4, 4), (4, 4), (4, 4), (4, 4), (4, 4), (8, 8), (4, 4),
    (4, 4), (4, 4), (4, 4), (4, 4), (4, 4), (4, 4), (8, 8), (4, 4)]

/-- Row Ax of the table of R310. -/
def costRowA : List (Nat × Nat) :=
  [(4, 4), (4, 4), (4, 4), (4, 4), (4, 4), (4, 4), (8, 8), (4, 4),
    (4, 4), (4, 4), (4, 4), (4, 4), (4, 4), (4, 4), (8, 8), (4, 4)]

/-- Row Bx of the table of R310. -/
def costRowB : List (Nat × Nat) :=
  [(4, 4), (4, 4), (4, 4), (4, 4), (4, 4), (4, 4), (8, 8), (4, 4),
    (4, 4), (4, 4), (4, 4), (4, 4), (4, 4), (4, 4), (8, 8), (4, 4)]

/-- Row Cx of the table of R310. -/
def costRowC : List (Nat × Nat) :=
  [(20, 8), (12, 12), (16, 12), (16, 16), (24, 12), (16, 16), (8, 8), (16, 16),
    (20, 8), (16, 16), (16, 12), (0, 0), (24, 12), (24, 24), (8, 8), (16, 16)]

/-- Row Dx of the table of R310. -/
def costRowD : List (Nat × Nat) :=
  [(20, 8), (12, 12), (16, 12), (0, 0), (24, 12), (16, 16), (8, 8), (16, 16),
    (20, 8), (16, 16), (16, 12), (0, 0), (24, 12), (0, 0), (8, 8), (16, 16)]

/-- Row Ex of the table of R310. -/
def costRowE : List (Nat × Nat) :=
  [(12, 12), (12, 12), (8, 8), (0, 0), (0, 0), (16, 16), (8, 8), (16, 16),
    (16, 16), (4, 4), (16, 16), (0, 0), (0, 0), (0, 0), (8, 8), (16, 16)]

/-- Row Fx of the table of R310. -/
def costRowF : List (Nat × Nat) :=
  [(12, 12), (12, 12), (8, 8), (4, 4), (0, 0), (16, 16), (8, 8), (16, 16),
    (12, 12), (8, 8), (16, 16), (4, 4), (0, 0), (0, 0), (8, 8), (16, 16)]

/-- The table of R310 for the `standard` profile: the cost of each base opcode, (taken, not taken) where a cell has two
numbers, the same number twice where it has one, (0, 0) for the prefix and the undefined opcodes. -/
def baseCosts : List (List (Nat × Nat)) :=
  [costRow0, costRow1, costRow2, costRow3] ++ [costRow4, costRow5, costRow6, costRow7] ++
    [costRow8, costRow9, costRowA, costRowB] ++ [costRowC, costRowD, costRowE, costRowF]

/-- The condition in bits 4:3 of a conditional opcode (R94: `cc = y` or `cc = y - 4`). -/
def condOfOpcode (op : Byte) : Cond :=
  match op.toNat / 8 % 4 with
  | 0 => .nz
  | 1 => .z
  | 2 => .nc
  | _ => .c

/-- The cost of a CB opcode (R311). -/
def cbCost (cb : Byte) : Nat :=
  if cb.toNat % 8 = 6 then (if cb.toNat / 64 = 1 then 12 else 16) else 8

/-- The cost of the instruction whose bytes are given, in a state (R310, R311). -/
def tableCycles (bytes : List Byte) (s : State) : Nat :=
  let op := bytes.headD 0
  if op = 0xCB then cbCost (bytes.getD 1 0)
  else
    let cell := (baseCosts.getD (op.toNat / 16) []).getD (op.toNat % 16) (0, 0)
    match s.env.cfg.timing with
    | .standard => if condHolds (condOfOpcode op) s then cell.1 else cell.2
    | .docLiteral =>
      if op ∈ [0xC1#8, 0xD1#8, 0xE1#8, 0xF1#8] then 16
      else if op ∈ [0xC2#8, 0xCA#8, 0xD2#8, 0xDA#8] ∧ condHolds (condOfOpcode op) s = true then 24
      else if condHolds (condOfOpcode op) s then cell.1 else cell.2

/-! ## The writers of the flags (R25) -/

/-- An entry of the table of R25: `-`, `0`, `1`, or `*` (written from the result). -/
inductive FlagEntry where
  | keep | zero | one | result
deriving DecidableEq, Repr

/-- A flag's old and new values obey an entry. -/
def FlagEntry.allows (e : FlagEntry) (old new : Bool) : Prop :=
  match e with
  | .keep => new = old
  | .zero => new = false
  | .one => new = true
  | .result => True

/-- A row of the table of R25. -/
structure FlagRow where
  z : FlagEntry
  n : FlagEntry
  h : FlagEntry
  c : FlagEntry
deriving DecidableEq, Repr

/-- The row of an ALU operation by its code `y`: ADD/ADC, SUB/SBC/CP, AND, XOR/OR. -/
def aluFlagRow (y : Nat) : FlagRow :=
  if y = 0 ∨ y = 1 then ⟨.result, .zero, .result, .result⟩
  else if y = 2 ∨ y = 3 ∨ y = 7 then ⟨.result, .one, .result, .result⟩
  else if y = 4 then ⟨.result, .zero, .one, .zero⟩
  else ⟨.result, .zero, .zero, .zero⟩

/-- The row of a CB opcode: the rotates and shifts, SWAP, BIT; RES and SET write no flag. -/
def cbFlagRow (cb : Nat) : FlagRow :=
  if cb / 64 = 0 then
    if cb / 8 = 6 then ⟨.result, .zero, .zero, .zero⟩ else ⟨.result, .zero, .zero, .result⟩
  else if cb / 64 = 1 then ⟨.result, .zero, .one, .keep⟩
  else ⟨.keep, .keep, .keep, .keep⟩

/-- The row of the singletons of block 0, `z = 7`: RLCA, RRCA, RLA, RRA, DAA, CPL, SCF, CCF. -/
def singletonFlagRow (y : Nat) : FlagRow :=
  if y < 4 then ⟨.zero, .zero, .zero, .result⟩
  else if y = 4 then ⟨.result, .keep, .zero, .result⟩
  else if y = 5 then ⟨.keep, .one, .one, .keep⟩
  else if y = 6 then ⟨.keep, .zero, .zero, .one⟩
  else ⟨.keep, .zero, .zero, .result⟩

/-- The row of R25 for the instruction whose bytes are given, found by the fields of its opcode; every flag is kept by an
instruction without a row. -/
def flagRow (bytes : List Byte) : FlagRow :=
  let op := (bytes.headD 0).toNat
  let x := op / 64
  let y := op / 8 % 8
  let z := op % 8
  if op = 0xCB then cbFlagRow (bytes.getD 1 0).toNat
  else if x = 2 ∨ (x = 3 ∧ z = 6) then aluFlagRow y
  else if x = 0 ∧ z = 4 then ⟨.result, .zero, .result, .keep⟩
  else if x = 0 ∧ z = 5 then ⟨.result, .one, .result, .keep⟩
  else if x = 0 ∧ z = 7 then singletonFlagRow y
  else if x = 0 ∧ z = 1 ∧ y % 2 = 1 then ⟨.keep, .zero, .result, .result⟩
  else if op = 0xE8 ∨ op = 0xF8 then ⟨.zero, .zero, .result, .result⟩
  else if op = 0xF1 then ⟨.result, .result, .result, .result⟩
  else ⟨.keep, .keep, .keep, .keep⟩

/-! ## What an instruction stores to -/

/-- A write at `a` can change what a read at `b` gives: the two name the same storage byte (echoes included) or the same
register, or `a` is LYC and `b` is STAT, whose bit 2 is `LY == LYC` (R34, R62, R63). -/
def touches (a b : Word) : Bool :=
  match route a, route b with
  | .storage j, .storage k => j == k
  | .reg .lyc, .reg .stat => true
  | .reg q, .reg r => q == r
  | _, _ => false

/-- The two addresses that `push16` stores to (R140). -/
def pushedAt (s : State) : List Word := [s.cpu.sp - 1, s.cpu.sp - 2]

/-- The addresses an instruction stores to, in a state: computed as its rule computes them (R122, R124, R126, R129, R130,
R132, R134, R136, R138, R142, R158, R159, R178, R206, R207, R211). An instruction not named stores to none. -/
def storesTo (i : Instr) (s : State) : List Word :=
  match i with
  | .ld_atHl_b | .ld_atHl_c | .ld_atHl_d | .ld_atHl_e | .ld_atHl_h | .ld_atHl_l | .ld_atHl_a | .ld_atHli_a
  | .ld_atHld_a | .inc_atHl | .dec_atHl | .rlc_atHl | .rrc_atHl | .rl_atHl | .rr_atHl | .sla_atHl | .sra_atHl
  | .swap_atHl | .srl_atHl | .res_0_atHl | .res_1_atHl | .res_2_atHl | .res_3_atHl | .res_4_atHl
  | .res_5_atHl | .res_6_atHl | .res_7_atHl | .set_0_atHl | .set_1_atHl | .set_2_atHl | .set_3_atHl
  | .set_4_atHl | .set_5_atHl | .set_6_atHl | .set_7_atHl => [hlAddr s]
  | .ld_atHl_d8 _ => [hlAddr s]
  | .ld_atBc_a => [readPair .bc s]
  | .ld_atDe_a => [readPair .de s]
  | .ld_atA16_a a => [a]
  | .ldh_atA8_a a => [highPage a]
  | .ld_atC_a => [highPage s.cpu.c]
  | .ld_atA16_sp a => [a, a + 1]
  | .push_bc | .push_de | .push_hl | .push_af | .rst_00 | .rst_08 | .rst_10 | .rst_18 | .rst_20 | .rst_28
  | .rst_30 | .rst_38 => pushedAt s
  | .call_a16 _ => pushedAt s
  | .call_nz_a16 _ => if condHolds .nz s then pushedAt s else []
  | .call_z_a16 _ => if condHolds .z s then pushedAt s else []
  | .call_nc_a16 _ => if condHolds .nc s then pushedAt s else []
  | .call_c_a16 _ => if condHolds .c s then pushedAt s else []
  | .prefix_cb cb => if cb.toNat % 8 = 6 ∧ cb.toNat / 64 ≠ 1 then [hlAddr s] else []
  | _ => []

/-! ## The PPU -/

/-- Dots since the start of the frame, by line and dot (R42, R266). -/
def framePos (s : State) : Nat := 456 * s.ppu.ly.toNat + s.ppu.dot

/-- The display is enabled and its timing machine runs, at a legal line and dot (R36, R42, R44). -/
abbrev Displaying (s : State) : Prop :=
  s.ppu.lcdc.getLsbD 7 = true ∧ s.ppu.lcdRunning = true ∧ s.ppu.ly.toNat ≤ 153 ∧ s.ppu.dot ≤ 455

/-- The line after LY (R262). -/
def lineAfter (ly : Byte) : Byte := if ly = 153 then 0 else ly + 1

/-- The address of tile `t` as a number (R272). -/
def tileBase (t : Byte) (unsignedMode : Bool) : Nat :=
  if unsignedMode then 0x8000 + 16 * t.toNat
  else if t.toNat < 128 then 0x9000 + 16 * t.toNat else 0x9000 + 16 * t.toNat - 4096

/-- The colour index of a tile's pixel, from the stored bytes (R272). -/
def tileColour (t : Byte) (c r : Nat) (unsignedMode : Bool) (s : State) : BitVec 2 :=
  let lo := Memory.read s.bus.mem (tileBase t unsignedMode + 2 * r)
  let hi := Memory.read s.bus.mem (tileBase t unsignedMode + 2 * r + 1)
  BitVec.ofBool (hi.getLsbD (7 - c)) ++ BitVec.ofBool (lo.getLsbD (7 - c))

/-- The tile number stored for the pixel (x, y) of a 256 by 256 plane (R273, R274). -/
def mapTile (high : Bool) (x y : Nat) (s : State) : Byte :=
  Memory.read s.bus.mem ((if high then 0x9C00 else 0x9800) + 32 * (y / 8) + x / 8)

/-- Bit `i` of LCDC (R33). -/
def lcdc (i : Nat) (s : State) : Bool := s.ppu.lcdc.getLsbD i

/-- Byte `k` of OAM entry `i` (R282). -/
def oamByte (i k : Nat) (s : State) : Byte := Memory.read s.bus.mem (0xFE00 + 4 * i + k)

end Sys2Proof.Forms
end

