-- ==== Sys2Proof/Certificates/Slice0/Obligations.lean ====
section
/-! DEFINITION. The statements for the provers, in the order of `OBLIGATIONS.json`. They speak of every state unless a
premise says otherwise. A conclusion `exec i s = .next t` with `t` written out as a record is at once the instruction's
completion, its result and its frame: every field not named is unchanged. What `memRead`, `memWrite`, `push16` and `pop16`
do is said by the statements about the bus and the stack. -/

open Sys2Proof Sys2Proof.Machine

/-! ## Encoding -/

/-- Decoding the bytes of a well-formed instruction, whatever follows them, gives it back with what follows
(R90, R91, R98, R104, R105). -/
def Obligations.DecodeAfterEncode : Prop :=
  ∀ (i : Instr) (rest : List Byte), WellFormed i → decode (encode i ++ rest) = .ok (i, rest)

/-- What is decoded is well-formed, and the bytes read are exactly its encoding: no two byte strings decode to the same
instruction, and no byte is dropped (R107). -/
def Obligations.EncodeAfterDecode : Prop :=
  ∀ (bytes : List Byte) (i : Instr) (rest : List Byte),
    decode bytes = .ok (i, rest) → WellFormed i ∧ encode i ++ rest = bytes

/-- Every byte is a defined opcode or one of the eleven undefined ones, and the first byte alone fixes the length: 1, 2 or
3 bytes (R90, R106, R107). -/
def Obligations.FirstByteFixesTheLength : Prop :=
  (∀ op b1 b2 c1 c2 : Byte,
    (decodeBytes op b1 b2).length = (decodeBytes op c1 c2).length ∧
    (decodeBytes op b1 b2).length ∈ [1, 2, 3] ∧
    decode [op, b1, b2] = .ok (decodeBytes op b1 b2, [op, b1, b2].drop (decodeBytes op b1 b2).length) ∧
    (decodeBytes op b1 b2 ∈ Forms.undefined.map Prod.snd ↔
      op ∈ [0xD3#8, 0xDB#8, 0xDD#8, 0xE3#8, 0xE4#8, 0xEB#8, 0xEC#8, 0xED#8, 0xF4#8, 0xFC#8, 0xFD#8]))

/-- Words written out from the spec's encodings, one or more of each family, decode to the instructions they stand for
(the examples of R120, R123, R131, R138, R150, R158, R172, R173, R180, R192, R194, R202, R205, R211, R222, R226). -/
def Obligations.SpecWordsDecode : Prop :=
  decodeBytes 0x41 0 0 = .ld_b_c ∧ decodeBytes 0x3E 0x3C 0 = .ld_a_d8 0x3C ∧
  decodeBytes 0xFA 0x23 0xC1 = .ld_a_atA16 0xC123 ∧ decodeBytes 0x08 0x00 0xC1 = .ld_atA16_sp 0xC100 ∧
  decodeBytes 0x80 0 0 = .add_a_b ∧ decodeBytes 0xEE 0x0F 0 = .xor_d8 0x0F ∧ decodeBytes 0x34 0 0 = .inc_atHl ∧
  decodeBytes 0x09 0 0 = .add_hl_bc ∧ decodeBytes 0xE8 0x08 0 = .add_sp_e8 0x08 ∧ decodeBytes 0x07 0 0 = .rlca ∧
  decodeBytes 0xCB 0x78 0 = .bit_7_b ∧ decodeBytes 0xCB 0xFE 0 = .set_7_atHl ∧ decodeBytes 0xCB 0x37 0 = .swap_a ∧
  decodeBytes 0xC2 0x00 0xD0 = .jp_nz_a16 0xD000 ∧ decodeBytes 0x20 0xFB 0 = .jr_nz_e8 0xFB ∧
  decodeBytes 0xFF 0 0 = .rst_38 ∧ decodeBytes 0x10 0x00 0 = .stop 0x00 ∧ decodeBytes 0x76 0 0 = .halt ∧
  decodeBytes 0xD3 0 0 = .undefined_d3

/-! ## The step -/

/-- When the bytes at PC are those of a defined instruction, a step of a running CPU is its meaning with PC past it, then
the boundary, the interrupt check and the PPU's advance by the step's cycles (R97, R230, R231). -/
def Obligations.StepRunsDecodedInstruction : Prop :=
  ∀ (i : Instr) (s : State), WellFormed i → i ∉ Forms.undefined.map Prod.snd →
    s.env.moves = [] → s.cpu.stopped = false → s.cpu.halted = false → s.cpu.haltBugLatch = false →
    (∀ k b, (encode i)[k]? = some b → byteAt (s.cpu.pc + BitVec.ofNat 16 k) s = some b) →
    step s =
      match exec i { s with cpu.pc := s.cpu.pc + BitVec.ofNat 16 (encode i).length } with
      | .next t =>
        let u := interruptCheck (boundary t)
        .next (ppuAdvance u.cpu.cycles u)
      | .fault r => .fault r
      | .refused r => .refused r

/-- With the HALT-bug latch set the opcode fetch does not advance PC and clears the latch: the opcode's byte is read again
as the next byte of the instruction (R97). -/
def Obligations.HaltBugRepeatsTheByte : Prop :=
  ∀ (s : State) (op b : Byte), s.env.moves = [] → s.cpu.stopped = false → s.cpu.halted = false →
    s.cpu.haltBugLatch = true → byteAt s.cpu.pc s = some op → byteAt (s.cpu.pc + 1) s = some b →
    isIllegal op = false →
    step s =
      match exec (decodeBytes op op b)
          { s with cpu.haltBugLatch := false, cpu.pc := s.cpu.pc + BitVec.ofNat 16 (opLength op - 1) } with
      | .next t =>
        let u := interruptCheck (boundary t)
        .next (ppuAdvance u.cpu.cycles u)
      | .fault r => .fault r
      | .refused r => .refused r

/-- An undefined opcode stops: its meaning is the fault with PC and the byte, and a step that fetches one, with the latch
set or clear, ends with that fault. The state the fault leaves is the state before the step with the fault in the log
(R225, R236). Two clauses rest on the model's choices: that the driver writes the log, because a faulting outcome carries no
state (log entry 11), and that the meaning faults with the PC it is given, in every state (log entry 15). -/
def Obligations.UndefinedOpcodesStop : Prop :=
  (∀ x ∈ Forms.undefined, ∀ s : State,
    encode x.2 = [x.1] ∧ exec x.2 s = .fault (.invalidOpcode s.cpu.pc x.1)) ∧
  (∀ x ∈ Forms.undefined, ∀ s : State, s.env.moves = [] → s.cpu.stopped = false → s.cpu.halted = false →
    byteAt s.cpu.pc s = some x.1 →
    step s = .fault (.invalidOpcode s.cpu.pc x.1) ∧
    afterFault (.invalidOpcode s.cpu.pc x.1) s =
      { s with env.faultLog := s.env.faultLog ++ [.invalidOpcode s.cpu.pc x.1] })

/-- Nothing else stops: no instruction but the eleven ends with a fault, none is refused, and a step that faults has
fetched one of the eleven bytes at PC with the CPU running (R225, and R238, which the spec marks as derived). -/
def Obligations.OnlyUndefinedOpcodesFault : Prop :=
  (∀ (i : Instr) (s : State), i ∉ Forms.undefined.map Prod.snd → ∃ t, exec i s = .next t) ∧
  (∀ (s : State) (r : Refusal), step s ≠ .refused r) ∧
  (∀ (s : State) (r : Fault), step s = .fault r →
    let u := takeMoves s
    u.cpu.stopped = false ∧ u.cpu.halted = false ∧
      (memRead u.cpu.pc u).1 ∈ Forms.undefined.map Prod.fst ∧
      r = .invalidOpcode u.cpu.pc (memRead u.cpu.pc u).1)

/-- The host's three policies: `halt` and `abort` end the run faulted, `skip` goes on one byte further; the log keeps the
fault (R239). The state is the one with the opcode's byte read at PC, so an open answer drawn for it is not drawn again
(R64, R285). That the driver writes the log and counts that draw is the model's choice (log entries 3 and 11). -/
def Obligations.DriverFaultPolicies : Prop :=
  ∀ (s : State) (r : Fault), step s = .fault r →
    let u := takeMoves s
    let fetched := (memRead u.cpu.pc u).2
    let logged := { fetched with env.faultLog := u.env.faultLog ++ [r] }
    (s.env.cfg.faultPolicy = .skip →
      driverStep s = .goOn { logged with cpu.pc := u.cpu.pc + 1 } 0) ∧
    (s.env.cfg.faultPolicy ≠ .skip → driverStep s = .faulted logged)

/-- No step changes the launch parameters or the fault log, and each step uses up one entry of the host's moves; the
promises of the collaborators stand (R9, R239, and R304, which the spec marks as derived). That the parameters, the moves
and the promises are fields of State is the model's choice (log entries 1, 3 and 9). -/
def Obligations.ParametersAndLogAreFixed : Prop :=
  ∀ s t : State, step s = .next t →
    t.env = { s.env with moves := s.env.moves.tail } ∧ t.bus.ext = s.bus.ext

/-- The cost of every instruction is that of the tables, for the timing profile of the run and by its condition
(R310, R311). -/
def Obligations.CycleTables : Prop :=
  ∀ (i : Instr) (s t : State), exec i s = .next t → t.cpu.cycles = Forms.tableCycles (encode i) s

/-- A step costs 4, 8, 12, 16, 20 or 24 cycles, and a step that dispatches 20 to 44 in steps of 4 (R231). -/
def Obligations.StepCostRange : Prop :=
  ∀ s t : State, step s = .next t →
    t.cpu.cycles ∈ [4, 8, 12, 16, 20, 24] ∨ t.cpu.cycles ∈ [20, 24, 28, 32, 36, 40, 44] ∧ t.cpu.ime = false

/-- Every step from a legal state leads to a legal state: the low nibble of F (R24), `ei_delay` (R28), the run states
(R31, whose "at most one of them is true" the spec marks as derived, and R32), the ranges of LY, `dot` and `off_dots` (R36, R42, R44), the mode as a function of line and dot (R42), the
window line counter (R43), the framebuffer's shape (R45) and the canonical form of storage. -/
def Obligations.StepKeepsTheInvariant : Prop :=
  ∀ s t : State, Machine.Inv s → step s = .next t → Machine.Inv t

/-- The state after reset is legal. -/
def Obligations.ResetMeetsTheInvariant : Prop := Machine.Inv State.reset

/-- The values R48 gives for reset, every piece of state but the storage, which R302 leaves open. -/
def Obligations.ResetValues : Prop :=
  let s := State.reset
  (s.cpu.a = 0x01 ∧ s.cpu.f = 0xB0 ∧ readPair .bc s = 0x0013 ∧ readPair .de s = 0x00D8 ∧ readPair .hl s = 0x014D ∧
    s.cpu.sp = 0xFFFE ∧ s.cpu.pc = 0x0100) ∧
  (s.cpu.ime = false ∧ s.cpu.eiDelay = 0 ∧ s.cpu.halted = false ∧ s.cpu.stopped = false ∧
    s.cpu.haltBugLatch = false ∧ s.irq.ie = 0x00 ∧ s.irq.ifr = 0x01) ∧
  (s.ppu.lcdc = 0x91 ∧ s.ppu.statEn = 0 ∧ s.ppu.scy = 0 ∧ s.ppu.scx = 0 ∧ s.ppu.ly = 0 ∧ s.ppu.lyc = 0 ∧
    s.ppu.bgp = 0xFC ∧ s.ppu.obp0 = 0xFF ∧ s.ppu.obp1 = 0xFF ∧ s.ppu.wy = 0 ∧ s.ppu.wx = 0) ∧
  (s.ppu.mode = .oamScan ∧ s.ppu.dot = 0 ∧ s.ppu.windowLine = 0 ∧ s.ppu.lcdRunning = true ∧ s.ppu.offDots = 0 ∧
    s.ppu.frameEvent = 0 ∧ s.ppu.framebuffer = List.replicate 144 (List.replicate 160 0) ∧ s.env.faultLog = [])

/-- The host's moves are made before the step, in order: `raise(k)` sets IF[k] and nothing else, `stop_wake` clears
`stopped` and nothing else; no move raises bit 0 or 1 (R240, R285). That the moves to
come are a schedule in State is the model's choice (log entry 9). -/
def Obligations.HostMovesBeforeTheStep : Prop :=
  (∀ s : State,
    hostMove (.raise .timer) s = { s with irq.ifr := s.irq.ifr ||| 0b00100 } ∧
    hostMove (.raise .serial) s = { s with irq.ifr := s.irq.ifr ||| 0b01000 } ∧
    hostMove (.raise .input) s = { s with irq.ifr := s.irq.ifr ||| 0b10000 } ∧
    hostMove .stopWake s = { s with cpu.stopped := false }) ∧
  (∀ (s : State) (m : HostMove) (ms : List HostMove) (later : List (List HostMove)),
    s.env.moves = (m :: ms) :: later →
      step s = step (hostMove m { s with env.moves := ms :: later })) ∧
  (∀ (s : State) (later : List (List HostMove)),
    s.env.moves = [] :: later → step s = systemStep { s with env.moves := later }) ∧
  (∀ s : State, s.env.moves = [] → step s = systemStep s)

/-- HALT and STOP, and the steps of a suspended CPU. HALT with the HALT bug only sets the latch; STOP's second byte is
ignored. A stopped step costs 4 and does nothing else, whatever is pending; a halted step without a request costs 4 and does
nothing else; with one it ends HALT, and dispatches for 20 cycles if IME is set, or costs 4 if not
(R221, R222, R231, R245, R247). -/
def Obligations.HaltAndStop : Prop :=
  ∀ (s : State) (pad : Byte),
    (encode .halt = [0x76] ∧
      exec .halt s = .next
        (if s.env.cfg.haltBug = true ∧ s.cpu.ime = false ∧ pendingAndEnabled s ≠ 0 then
          { s with cpu.haltBugLatch := true, cpu.cycles := 4 }
        else { s with cpu.halted := true, cpu.cycles := 4 })) ∧
    (encode (.stop pad) = [0x10, pad] ∧
      exec (.stop pad) s = .next { s with cpu.stopped := true, cpu.cycles := 4 }) ∧
    (s.cpu.stopped = true → systemStep s = .next (ppuAdvance 4 { s with cpu.cycles := 4 })) ∧
    (s.cpu.stopped = false → s.cpu.halted = true →
      (pendingAndEnabled s = 0 → systemStep s = .next (ppuAdvance 4 { s with cpu.cycles := 4 })) ∧
      (pendingAndEnabled s ≠ 0 → s.cpu.ime = false →
        systemStep s = .next (ppuAdvance 4 { s with cpu.halted := false, cpu.cycles := 4 })) ∧
      (pendingAndEnabled s ≠ 0 → s.cpu.ime = true →
        systemStep s = .next (ppuAdvance 20 { takeInterrupt s with cpu.cycles := 20 }))) ∧
    hostMove .stopWake s = { s with cpu.stopped := false }

/-! ## The bus -/

/-- The address map (R61), with the echo of WRAM (R63); 0xFF46 goes to `io_ext` (R62). -/
def Obligations.AddressMap : Prop :=
  ∀ a : Word, let n := a.toNat
    (n ≤ 0x7FFF → route a = .ext .cart) ∧
    (0x8000 ≤ n → n ≤ 0x9FFF → route a = .storage n) ∧
    (0xA000 ≤ n → n ≤ 0xBFFF → route a = .ext .cart) ∧
    (0xC000 ≤ n → n ≤ 0xDFFF → route a = .storage n) ∧
    (0xE000 ≤ n → n ≤ 0xFDFF → route a = route (a - 0x2000)) ∧
    (0xFE00 ≤ n → n ≤ 0xFE9F → route a = .storage n) ∧
    (0xFEA0 ≤ n → n ≤ 0xFEFF → route a = .ext .ioExt) ∧
    (0xFF00 ≤ n → n ≤ 0xFF7F →
      n ∉ [0xFF0F, 0xFF40, 0xFF41, 0xFF42, 0xFF43, 0xFF44, 0xFF45, 0xFF47, 0xFF48, 0xFF49, 0xFF4A, 0xFF4B] →
        route a = .ext .ioExt) ∧
    (0xFF80 ≤ n → n ≤ 0xFFFE → route a = .storage n) ∧
    (n = 0xFFFF → route a = .reg .ie)

/-- What reads and writes of the core's registers do (R62, R30, R34, R36): thirteen addresses, read and write. -/
def Obligations.CoreRegisters : Prop :=
  ∀ (s : State) (v : Byte),
    (byteAt 0xFF0F s = some (0xE0 ||| s.irq.ifr.setWidth 8) ∧
      memWrite 0xFF0F v s = { s with irq.ifr := v.extractLsb' 0 5 }) ∧
    (byteAt 0xFF40 s = some s.ppu.lcdc ∧ memWrite 0xFF40 v s = { s with ppu.lcdc := v }) ∧
    (byteAt 0xFF41 s =
        some (0x80 ||| (s.ppu.statEn.setWidth 8 <<< 3) ||| (if s.ppu.ly = s.ppu.lyc then 4 else 0) |||
          (match s.ppu.mode with | .hblank => 0 | .vblank => 1 | .oamScan => 2 | .transfer => 3)) ∧
      memWrite 0xFF41 v s = { s with ppu.statEn := v.extractLsb' 3 4 }) ∧
    (byteAt 0xFF42 s = some s.ppu.scy ∧ memWrite 0xFF42 v s = { s with ppu.scy := v }) ∧
    (byteAt 0xFF43 s = some s.ppu.scx ∧ memWrite 0xFF43 v s = { s with ppu.scx := v }) ∧
    (byteAt 0xFF44 s = some s.ppu.ly ∧ memWrite 0xFF44 v s = s) ∧
    (byteAt 0xFF45 s = some s.ppu.lyc ∧ memWrite 0xFF45 v s = { s with ppu.lyc := v }) ∧
    (byteAt 0xFF47 s = some s.ppu.bgp ∧ memWrite 0xFF47 v s = { s with ppu.bgp := v }) ∧
    (byteAt 0xFF48 s = some s.ppu.obp0 ∧ memWrite 0xFF48 v s = { s with ppu.obp0 := v }) ∧
    (byteAt 0xFF49 s = some s.ppu.obp1 ∧ memWrite 0xFF49 v s = { s with ppu.obp1 := v }) ∧
    (byteAt 0xFF4A s = some s.ppu.wy ∧ memWrite 0xFF4A v s = { s with ppu.wy := v }) ∧
    (byteAt 0xFF4B s = some s.ppu.wx ∧ memWrite 0xFF4B v s = { s with ppu.wx := v }) ∧
    (byteAt 0xFFFF s = some s.irq.ie ∧ memWrite 0xFFFF v s = { s with irq.ie := v })

/-- A read of storage or of a core register gives its byte and changes nothing; a read of a collaborator that has promised
nothing is a draw, which counts one draw and changes nothing else (R64, R66, R67). The counter
and the promises are the model's own fields (log entry 3). -/
def Obligations.ReadsHaveNoEffect : Prop :=
  ∀ (s : State) (a : Word),
    (∀ v, byteAt a s = some v → memRead a s = (v, s)) ∧
    (byteAt a s = none →
      memRead a s = (Config.extAnswer s.bus.draws a, { s with bus.draws := s.bus.draws + 1 })) ∧
    (byteAt a s = none ↔ ∃ who, route a = .ext who ∧ Memory.lookup s.bus.ext a.toNat = none) ∧
    (∀ k, route a = .storage k → byteAt a s = some (Memory.read s.bus.mem k))

/-- A write to storage is read back at every address of that byte, in every PPU mode; and a write anywhere leaves every
byte alone that it does not touch (R63, R65, R67, R69). A write to a collaborator changes no byte the bus holds
(log entry 10). -/
def Obligations.WritesTouchOnlyTheirByte : Prop :=
  ∀ (s : State) (a b : Word) (v : Byte), BusInv s →
    (∀ k, route a = .storage k → route b = .storage k → byteAt b (memWrite a v s) = some v) ∧
    (Forms.touches a b = false → byteAt b (memWrite a v s) = byteAt b s) ∧
    (∀ k, route a = .storage k →
      memWrite a v s = { s with bus.mem := (memWrite a v s).bus.mem } ∧ BusInv (memWrite a v s)) ∧
    (∀ who, route a = .ext who → memWrite a v s = { s with bus.extWrites := (a.toNat, v) :: s.bus.extWrites })

/-- `push16` stores the high byte at SP-1, then the low byte at SP-2, and SP falls by 2 (R140); `pop16` reads the low byte
at SP and the high byte at SP+1, and SP rises by 2 (R141). SP wraps. -/
def Obligations.StackPrimitives : Prop :=
  (∀ (s : State) (v : Word),
    push16 v s =
      memWrite (s.cpu.sp - 2) (v.extractLsb' 0 8)
        (memWrite (s.cpu.sp - 1) (v.extractLsb' 8 8) { s with cpu.sp := s.cpu.sp - 2 })) ∧
  (∀ s : State,
    let r1 := memRead s.cpu.sp s
    let r2 := memRead (s.cpu.sp + 1) r1.2
    pop16 s = (r2.1 ++ r1.1, { r2.2 with cpu.sp := s.cpu.sp + 2 })) ∧
  (∀ (s : State) (lo hi : Byte), byteAt s.cpu.sp s = some lo → byteAt (s.cpu.sp + 1) s = some hi →
    pop16 s = (hi ++ lo, { s with cpu.sp := s.cpu.sp + 2 }))

/-- The pair views: the first-named register is the high byte, a pair's write writes both registers and nothing else, and
a register's write changes that register alone (R20, R21). -/
def Obligations.RegistersAndPairs : Prop :=
  ∀ (s : State) (v : Word) (x : Byte),
    (readPair .bc s = s.cpu.b ++ s.cpu.c ∧ readPair .de s = s.cpu.d ++ s.cpu.e ∧
      readPair .hl s = s.cpu.h ++ s.cpu.l ∧ readPair .sp s = s.cpu.sp ∧ readStackPair .af s = s.cpu.a ++ s.cpu.f) ∧
    (writePair .bc v s = { s with cpu.b := v.extractLsb' 8 8, cpu.c := v.extractLsb' 0 8 } ∧
      writePair .de v s = { s with cpu.d := v.extractLsb' 8 8, cpu.e := v.extractLsb' 0 8 } ∧
      writePair .hl v s = { s with cpu.h := v.extractLsb' 8 8, cpu.l := v.extractLsb' 0 8 } ∧
      writePair .sp v s = { s with cpu.sp := v } ∧
      writeStackPair .af v s =
        { s with cpu.a := v.extractLsb' 8 8
                 cpu.f := flagByte (v.getLsbD 7) (v.getLsbD 6) (v.getLsbD 5) (v.getLsbD 4) 0 }) ∧
    (∀ p : Pair, readPair p (writePair p v s) = v) ∧
    (∀ q r : Reg8, readReg8 r (writeReg8 q x s) = if r = q then x else readReg8 r s)

/-! ## Loads -/

/-- LD between registers, the byte at HL and an immediate byte (R120 to R124). -/
def Obligations.EightBitLoads : Prop :=
  ∀ (s : State) (dst r : Reg8) (v : Byte),
    (encode (Forms.ldRegReg dst r) = [Forms.fieldsXYZ 1 (Forms.regCode dst) (Forms.regCode r)] ∧
      exec (Forms.ldRegReg dst r) s = .next { writeReg8 dst (readReg8 r s) s with cpu.cycles := 4 }) ∧
    (encode (Forms.ldRegHl dst) = [Forms.fieldsXYZ 1 (Forms.regCode dst) 6] ∧
      exec (Forms.ldRegHl dst) s =
        .next { writeReg8 dst (memRead (hlAddr s) s).1 (memRead (hlAddr s) s).2 with cpu.cycles := 8 }) ∧
    (encode (Forms.ldHlReg r) = [Forms.fieldsXYZ 1 6 (Forms.regCode r)] ∧
      exec (Forms.ldHlReg r) s = .next { memWrite (hlAddr s) (readReg8 r s) s with cpu.cycles := 8 }) ∧
    (encode (Forms.ldRegImm dst v) = [Forms.fieldsXYZ 0 (Forms.regCode dst) 6, v] ∧
      exec (Forms.ldRegImm dst v) s = .next { writeReg8 dst v s with cpu.cycles := 8 }) ∧
    (encode (.ld_atHl_d8 v) = [0x36, v] ∧
      exec (.ld_atHl_d8 v) s = .next { memWrite (hlAddr s) v s with cpu.cycles := 12 })

/-- The loads and stores of A through BC, DE, HL with a step, an absolute address and the high page (R125 to R136). -/
def Obligations.AccumulatorLoads : Prop :=
  ∀ (s : State) (a : Word) (x : Byte),
    let up := readPair .hl s + 1
    let down := readPair .hl s - 1
    let atBc := memRead (readPair .bc s) s
    let atDe := memRead (readPair .de s) s
    let atHl := memRead (readPair .hl s) s
    let atA := memRead a s
    let atX := memRead (0xFF00 + x.setWidth 16) s
    let atC := memRead (0xFF00 + s.cpu.c.setWidth 16) s
    (encode .ld_a_atBc = [0x0A] ∧ exec .ld_a_atBc s = .next { atBc.2 with cpu.a := atBc.1, cpu.cycles := 8 }) ∧
    (encode .ld_a_atDe = [0x1A] ∧ exec .ld_a_atDe s = .next { atDe.2 with cpu.a := atDe.1, cpu.cycles := 8 }) ∧
    (encode .ld_atBc_a = [0x02] ∧
      exec .ld_atBc_a s = .next { memWrite (readPair .bc s) s.cpu.a s with cpu.cycles := 8 }) ∧
    (encode .ld_atDe_a = [0x12] ∧
      exec .ld_atDe_a s = .next { memWrite (readPair .de s) s.cpu.a s with cpu.cycles := 8 }) ∧
    (encode .ld_a_atHli = [0x2A] ∧
      exec .ld_a_atHli s = .next { atHl.2 with
        cpu.a := atHl.1, cpu.h := up.extractLsb' 8 8, cpu.l := up.extractLsb' 0 8, cpu.cycles := 8 }) ∧
    (encode .ld_a_atHld = [0x3A] ∧
      exec .ld_a_atHld s = .next { atHl.2 with
        cpu.a := atHl.1, cpu.h := down.extractLsb' 8 8, cpu.l := down.extractLsb' 0 8, cpu.cycles := 8 }) ∧
    (encode .ld_atHli_a = [0x22] ∧
      exec .ld_atHli_a s = .next { memWrite (readPair .hl s) s.cpu.a s with
        cpu.h := up.extractLsb' 8 8, cpu.l := up.extractLsb' 0 8, cpu.cycles := 8 }) ∧
    (encode .ld_atHld_a = [0x32] ∧
      exec .ld_atHld_a s = .next { memWrite (readPair .hl s) s.cpu.a s with
        cpu.h := down.extractLsb' 8 8, cpu.l := down.extractLsb' 0 8, cpu.cycles := 8 }) ∧
    (encode (.ld_a_atA16 a) = [0xFA, a.extractLsb' 0 8, a.extractLsb' 8 8] ∧
      exec (.ld_a_atA16 a) s = .next { atA.2 with cpu.a := atA.1, cpu.cycles := 16 }) ∧
    (encode (.ld_atA16_a a) = [0xEA, a.extractLsb' 0 8, a.extractLsb' 8 8] ∧
      exec (.ld_atA16_a a) s = .next { memWrite a s.cpu.a s with cpu.cycles := 16 }) ∧
    (encode (.ldh_a_atA8 x) = [0xF0, x] ∧
      exec (.ldh_a_atA8 x) s = .next { atX.2 with cpu.a := atX.1, cpu.cycles := 12 }) ∧
    (encode (.ldh_atA8_a x) = [0xE0, x] ∧
      exec (.ldh_atA8_a x) s = .next { memWrite (0xFF00 + x.setWidth 16) s.cpu.a s with cpu.cycles := 12 }) ∧
    (encode .ld_a_atC = [0xF2] ∧ exec .ld_a_atC s = .next { atC.2 with cpu.a := atC.1, cpu.cycles := 8 }) ∧
    (encode .ld_atC_a = [0xE2] ∧
      exec .ld_atC_a s = .next { memWrite (0xFF00 + s.cpu.c.setWidth 16) s.cpu.a s with cpu.cycles := 8 })

/-- LD rr,d16, LD (a16),SP and LD SP,HL (R137 to R139). -/
def Obligations.SixteenBitLoads : Prop :=
  ∀ (s : State) (p : Pair) (v : Word),
    (encode (Forms.ldPairImm p v) =
        [Forms.fieldsXPQZ 0 (Forms.pairCode p) 0 1, v.extractLsb' 0 8, v.extractLsb' 8 8] ∧
      exec (Forms.ldPairImm p v) s = .next { writePair p v s with cpu.cycles := 12 }) ∧
    (encode (.ld_atA16_sp v) = [0x08, v.extractLsb' 0 8, v.extractLsb' 8 8] ∧
      exec (.ld_atA16_sp v) s =
        .next { memWrite (v + 1) (s.cpu.sp.extractLsb' 8 8) (memWrite v (s.cpu.sp.extractLsb' 0 8) s) with
          cpu.cycles := 20 }) ∧
    (encode .ld_sp_hl = [0xF9] ∧ exec .ld_sp_hl s = .next { s with cpu.sp := readPair .hl s, cpu.cycles := 8 })

/-- PUSH and POP (R142, R143): POP AF takes its flags from the popped byte and clears the low nibble of F. POP costs 12, or
16 in the `doc_literal` profile. -/
def Obligations.PushAndPop : Prop :=
  ∀ (s : State) (p : StackPair),
    (encode (Forms.push p) = [Forms.fieldsXPQZ 3 (Forms.stackCode p) 0 5] ∧
      exec (Forms.push p) s = .next { push16 (readStackPair p s) s with cpu.cycles := 16 }) ∧
    (encode (Forms.pop p) = [Forms.fieldsXPQZ 3 (Forms.stackCode p) 0 1] ∧
      exec (Forms.pop p) s =
        .next { writeStackPair p (pop16 s).1 (pop16 s).2 with
          cpu.cycles := match s.env.cfg.timing with | .standard => 12 | .docLiteral => 16 }) ∧
    (∀ t, exec .pop_af s = .next t →
      let v := (pop16 s).1
      t.cpu.a = v.extractLsb' 8 8 ∧ flagZ t = v.getLsbD 7 ∧ flagN t = v.getLsbD 6 ∧ flagH t = v.getLsbD 5 ∧
        flagC t = v.getLsbD 4 ∧ flagLow t = 0)

/-! ## Arithmetic and logic -/

/-- ADD, ADC, SUB, SBC, AND, XOR, OR and CP with a register, the byte at HL and an immediate: result, the four flags, cost
and encoding; CP keeps A (R148, R150 to R157). -/
def Obligations.AluOperations : Prop :=
  ∀ (s : State) (src : Src8),
    let v := (readSrc8 src s).1
    let s1 := (readSrc8 src s).2
    let a := s.cpu.a
    let c := flagC s
    let n := c.toNat
    let cost := Forms.costBySrc 4 8 src
    (∀ op, encode (Forms.alu op src) = Forms.aluBytes op src) ∧
    exec (Forms.alu .add src) s = .next { s1 with
      cpu.a := a + v
      cpu.f := flagByte (a + v == 0) false (decide (a.toNat % 16 + v.toNat % 16 > 0xF))
        (decide (a.toNat + v.toNat > 0xFF)) (flagLow s)
      cpu.cycles := cost } ∧
    exec (Forms.alu .adc src) s = .next { s1 with
      cpu.a := a + v + BitVec.ofNat 8 n
      cpu.f := flagByte (a + v + BitVec.ofNat 8 n == 0) false (decide (a.toNat % 16 + v.toNat % 16 + n > 0xF))
        (decide (a.toNat + v.toNat + n > 0xFF)) (flagLow s)
      cpu.cycles := cost } ∧
    exec (Forms.alu .sub src) s = .next { s1 with
      cpu.a := a - v
      cpu.f := flagByte (a - v == 0) true (decide (a.toNat % 16 < v.toNat % 16)) (decide (a.toNat < v.toNat))
        (flagLow s)
      cpu.cycles := cost } ∧
    exec (Forms.alu .sbc src) s = .next { s1 with
      cpu.a := a - v - BitVec.ofNat 8 n
      cpu.f := flagByte (a - v - BitVec.ofNat 8 n == 0) true (decide (a.toNat % 16 < v.toNat % 16 + n))
        (decide (a.toNat < v.toNat + n)) (flagLow s)
      cpu.cycles := cost } ∧
    exec (Forms.alu .and src) s = .next { s1 with
      cpu.a := a &&& v, cpu.f := flagByte (a &&& v == 0) false true false (flagLow s), cpu.cycles := cost } ∧
    exec (Forms.alu .xor src) s = .next { s1 with
      cpu.a := a ^^^ v, cpu.f := flagByte (a ^^^ v == 0) false false false (flagLow s), cpu.cycles := cost } ∧
    exec (Forms.alu .or src) s = .next { s1 with
      cpu.a := a ||| v, cpu.f := flagByte (a ||| v == 0) false false false (flagLow s), cpu.cycles := cost } ∧
    exec (Forms.alu .cp src) s = .next { s1 with
      cpu.f := flagByte (a - v == 0) true (decide (a.toNat % 16 < v.toNat % 16)) (decide (a.toNat < v.toNat))
        (flagLow s)
      cpu.cycles := cost }

/-- INC and DEC of a register or the byte at HL: the operand is written back, Z, N and Hf are set and Cf is kept
(R158, R159). -/
def Obligations.IncrementAndDecrement : Prop :=
  ∀ (s : State) (x : Place8),
    let v := (readPlace8 x s).1
    let s1 := (readPlace8 x s).2
    (encode (Forms.inc x) = [Forms.fieldsXYZ 0 (Forms.placeCode x) 4] ∧
      exec (Forms.inc x) s = .next { writePlace8 x (v + 1) s1 with
        cpu.f := flagByte (v + 1 == 0) false (v.toNat % 16 == 0xF) (flagC s) (flagLow s)
        cpu.cycles := Forms.costByPlace 4 12 x }) ∧
    (encode (Forms.dec x) = [Forms.fieldsXYZ 0 (Forms.placeCode x) 5] ∧
      exec (Forms.dec x) s = .next { writePlace8 x (v - 1) s1 with
        cpu.f := flagByte (v - 1 == 0) true (v.toNat % 16 == 0) (flagC s) (flagLow s)
        cpu.cycles := Forms.costByPlace 4 12 x })

/-- DAA, for every A and flags (R160): after an addition 0x60 is added on carry or A > 0x99 and 0x06 on half-carry or a low
digit above 9; after a subtraction they are subtracted on carry and half-carry, and the carry is never newly set. -/
def Obligations.DecimalAdjust : Prop :=
  ∀ s : State,
    let a := s.cpu.a
    let high := flagC s || (!flagN s && decide (a.toNat > 0x99))
    let low := flagH s || (!flagN s && decide (a.toNat % 16 > 9))
    let adjust : Byte := (if high then 0x60 else 0) + (if low then 0x06 else 0)
    let r := if flagN s then a - adjust else a + adjust
    encode .daa = [0x27] ∧
    exec .daa s = .next { s with
      cpu.a := r, cpu.f := flagByte (r == 0) (flagN s) false high (flagLow s), cpu.cycles := 4 }

/-- DAA after ADD or SUB of two-digit BCD numbers gives the decimal sum or difference, with the decimal carry or borrow in
Cf and Z for a zero result. -/
def Obligations.DecimalArithmetic : Prop :=
  ∀ (s : State) (x y : Nat), x < 100 → y < 100 →
    let bcd (n : Nat) : Byte := BitVec.ofNat 8 (16 * (n / 10) + n % 10)
    s.cpu.a = bcd x → s.cpu.b = bcd y →
    (∃ t u, exec .add_a_b s = .next t ∧ exec .daa t = .next u ∧
      u.cpu.a = bcd ((x + y) % 100) ∧ flagC u = decide (x + y ≥ 100) ∧ flagZ u = decide ((x + y) % 100 = 0)) ∧
    (∃ t u, exec .sub_b s = .next t ∧ exec .daa t = .next u ∧
      u.cpu.a = bcd ((x + 100 - y) % 100) ∧ flagC u = decide (x < y) ∧ flagZ u = decide (x = y))

/-- CPL, SCF, CCF (R161 to R163) and the accumulator rotates, which always clear Z (R180 to R183). -/
def Obligations.AccumulatorSingletons : Prop :=
  ∀ s : State,
    let a := s.cpu.a
    let z := flagZ s
    let c := flagC s
    (encode .cpl = [0x2F] ∧ exec .cpl s = .next { s with
      cpu.a := ~~~a, cpu.f := flagByte z true true c (flagLow s), cpu.cycles := 4 }) ∧
    (encode .scf = [0x37] ∧ exec .scf s = .next { s with
      cpu.f := flagByte z false false true (flagLow s), cpu.cycles := 4 }) ∧
    (encode .ccf = [0x3F] ∧ exec .ccf s = .next { s with
      cpu.f := flagByte z false false (!c) (flagLow s), cpu.cycles := 4 }) ∧
    (encode .rlca = [0x07] ∧ exec .rlca s = .next { s with
      cpu.a := a.rotateLeft 1, cpu.f := flagByte false false false (a.getLsbD 7) (flagLow s), cpu.cycles := 4 }) ∧
    (encode .rrca = [0x0F] ∧ exec .rrca s = .next { s with
      cpu.a := a.rotateRight 1, cpu.f := flagByte false false false (a.getLsbD 0) (flagLow s), cpu.cycles := 4 }) ∧
    (encode .rla = [0x17] ∧ exec .rla s = .next { s with
      cpu.a := (a <<< 1) ||| (BitVec.ofBool c).setWidth 8
      cpu.f := flagByte false false false (a.getLsbD 7) (flagLow s), cpu.cycles := 4 }) ∧
    (encode .rra = [0x1F] ∧ exec .rra s = .next { s with
      cpu.a := (a >>> 1) ||| ((BitVec.ofBool c).setWidth 8 <<< 7)
      cpu.f := flagByte false false false (a.getLsbD 0) (flagLow s), cpu.cycles := 4 })

/-- INC rr and DEC rr, which touch no flag; ADD HL,rr, which keeps Z; ADD SP,e8 and LD HL,SP+e8, whose Hf and Cf come from
the low bytes (R170 to R174). -/
def Obligations.SixteenBitArithmetic : Prop :=
  ∀ (s : State) (p : Pair) (e8 : Byte),
    let hl := readPair .hl s
    let v := readPair p s
    let sum := hl + v
    let sp := s.cpu.sp
    let moved := sp + e8.signExtend 16
    let f := flagByte false false (decide (sp.toNat % 16 + e8.toNat % 16 > 0xF))
      (decide (sp.toNat % 256 + e8.toNat > 0xFF)) (flagLow s)
    (encode (Forms.incPair p) = [Forms.fieldsXPQZ 0 (Forms.pairCode p) 0 3] ∧
      exec (Forms.incPair p) s = .next { writePair p (v + 1) s with cpu.cycles := 8 }) ∧
    (encode (Forms.decPair p) = [Forms.fieldsXPQZ 0 (Forms.pairCode p) 1 3] ∧
      exec (Forms.decPair p) s = .next { writePair p (v - 1) s with cpu.cycles := 8 }) ∧
    (encode (Forms.addHl p) = [Forms.fieldsXPQZ 0 (Forms.pairCode p) 1 1] ∧
      exec (Forms.addHl p) s = .next { s with
        cpu.h := sum.extractLsb' 8 8, cpu.l := sum.extractLsb' 0 8
        cpu.f := flagByte (flagZ s) false (decide (hl.toNat % 0x1000 + v.toNat % 0x1000 > 0xFFF))
          (decide (hl.toNat + v.toNat > 0xFFFF)) (flagLow s)
        cpu.cycles := 8 }) ∧
    (encode (.add_sp_e8 e8) = [0xE8, e8] ∧
      exec (.add_sp_e8 e8) s = .next { s with cpu.sp := moved, cpu.f := f, cpu.cycles := 16 }) ∧
    (encode (.ld_hl_spE8 e8) = [0xF8, e8] ∧
      exec (.ld_hl_spE8 e8) s = .next { s with
        cpu.h := moved.extractLsb' 8 8, cpu.l := moved.extractLsb' 0 8, cpu.f := f, cpu.cycles := 12 })

/-! ## Rotates, shifts and bits -/

/-- The CB rotates and shifts on a register or the byte at HL: the operand is written back, Z from the result, N and Hf
cleared, Cf the bit shifted out (R178, R179, R184 to R191). -/
def Obligations.CbRotatesAndShifts : Prop :=
  ∀ (s : State) (x : Place8),
    let v := (readPlace8 x s).1
    let c := flagC s
    let carryIn : Byte := (BitVec.ofBool c).setWidth 8
    let result (r : Byte) (co : Bool) : State := { writePlace8 x r (readPlace8 x s).2 with
      cpu.f := flagByte (r == 0) false false co (flagLow s), cpu.cycles := Forms.costByPlace 8 16 x }
    (∀ op, encode (Forms.rot op x) = Forms.cbBytes 0 (Forms.rotCode op) x) ∧
    exec (Forms.rot .rlc x) s = .next (result (v.rotateLeft 1) (v.getLsbD 7)) ∧
    exec (Forms.rot .rrc x) s = .next (result (v.rotateRight 1) (v.getLsbD 0)) ∧
    exec (Forms.rot .rl x) s = .next (result ((v <<< 1) ||| carryIn) (v.getLsbD 7)) ∧
    exec (Forms.rot .rr x) s = .next (result ((v >>> 1) ||| (carryIn <<< 7)) (v.getLsbD 0)) ∧
    exec (Forms.rot .sla x) s = .next (result (v <<< 1) (v.getLsbD 7)) ∧
    exec (Forms.rot .sra x) s = .next (result (v.sshiftRight 1) (v.getLsbD 0)) ∧
    exec (Forms.rot .srl x) s = .next (result (v >>> 1) (v.getLsbD 0)) ∧
    exec (Forms.rot .swap x) s = .next (result (v.rotateLeft 4) false)

/-- BIT tests, RES clears and SET sets one bit of a register or of the byte at HL; BIT writes only Z, N and Hf, the others
write no flag (R178, R192 to R194). -/
def Obligations.CbBitOperations : Prop :=
  ∀ (s : State) (b : Fin 8) (x : Place8),
    let v := (readPlace8 x s).1
    let s1 := (readPlace8 x s).2
    (encode (Forms.bit b x) = Forms.cbBytes 1 (BitVec.ofNat 3 b.val) x ∧
      exec (Forms.bit b x) s = .next { s1 with
        cpu.f := flagByte (!v.getLsbD b.val) false true (flagC s) (flagLow s)
        cpu.cycles := Forms.costByPlace 8 12 x }) ∧
    (encode (Forms.res b x) = Forms.cbBytes 2 (BitVec.ofNat 3 b.val) x ∧
      exec (Forms.res b x) s = .next { writePlace8 x (v &&& ~~~(1#8 <<< b.val)) s1 with
        cpu.cycles := Forms.costByPlace 8 16 x }) ∧
    (encode (Forms.set b x) = Forms.cbBytes 3 (BitVec.ofNat 3 b.val) x ∧
      exec (Forms.set b x) s = .next { writePlace8 x (v ||| (1#8 <<< b.val)) s1 with
        cpu.cycles := Forms.costByPlace 8 16 x })

/-- The prefix escapes to the CB page: `0xCB cb` decodes to a CB instruction, the meaning of the escape is that
instruction's, and it always completes (R226). That the row PREFIX_CB is a term of its own, ill-formed and never decoded, with
a meaning, is the model's choice (log entry 5); only the clauses about it rest on that. -/
def Obligations.PrefixEscapes : Prop :=
  ∀ (s : State) (cb b2 : Byte),
    encode (decodeBytes 0xCB cb b2) = [0xCB, cb] ∧
    exec (.prefix_cb cb) s = exec (decodeBytes 0xCB cb b2) s ∧ ∃ t, exec (.prefix_cb cb) s = .next t

/-! ## Control transfer -/

/-- The conditions (R200) and the jumps, taken or not, with the costs of both (R201 to R205). -/
def Obligations.Jumps : Prop :=
  ∀ (s : State) (cc : Cond) (a : Word) (e : Byte),
    let taken := condHolds cc s
    (condHolds .nz s = !flagZ s ∧ condHolds .z s = flagZ s ∧ condHolds .nc s = !flagC s ∧
      condHolds .c s = flagC s) ∧
    (encode (.jp_a16 a) = [0xC3, a.extractLsb' 0 8, a.extractLsb' 8 8] ∧
      exec (.jp_a16 a) s = .next { s with cpu.pc := a, cpu.cycles := 16 }) ∧
    (encode (Forms.jpCc cc a) =
        [Forms.fieldsXPQZ 3 ((0 : BitVec 1) ++ (Forms.condCode cc).extractLsb' 1 1)
          ((Forms.condCode cc).extractLsb' 0 1) 2, a.extractLsb' 0 8, a.extractLsb' 8 8] ∧
      exec (Forms.jpCc cc a) s = .next { s with
        cpu.pc := if taken then a else s.cpu.pc
        cpu.cycles :=
          if taken then (match s.env.cfg.timing with | .standard => 16 | .docLiteral => 24) else 12 }) ∧
    (encode .jp_hl = [0xE9] ∧ exec .jp_hl s = .next { s with cpu.pc := readPair .hl s, cpu.cycles := 4 }) ∧
    (encode (.jr_e8 e) = [0x18, e] ∧
      exec (.jr_e8 e) s = .next { s with cpu.pc := s.cpu.pc + e.signExtend 16, cpu.cycles := 12 }) ∧
    (encode (Forms.jrCc cc e) = [(1 : BitVec 3) ++ Forms.condCode cc ++ (0 : BitVec 3), e] ∧
      exec (Forms.jrCc cc e) s = .next { s with
        cpu.pc := if taken then s.cpu.pc + e.signExtend 16 else s.cpu.pc
        cpu.cycles := if taken then 12 else 8 })

/-- CALL, CALL cc and RST: PC, the address after the instruction, is pushed and control goes to the target; not taken,
nothing is pushed (R206, R207, R211). -/
def Obligations.Calls : Prop :=
  ∀ (s : State) (cc : Cond) (a : Word) (y : Fin 8),
    (encode (.call_a16 a) = [0xCD, a.extractLsb' 0 8, a.extractLsb' 8 8] ∧
      exec (.call_a16 a) s = .next { push16 s.cpu.pc s with cpu.pc := a, cpu.cycles := 24 }) ∧
    (encode (Forms.callCc cc a) =
        [(6 : BitVec 3) ++ Forms.condCode cc ++ (4 : BitVec 3), a.extractLsb' 0 8, a.extractLsb' 8 8] ∧
      (condHolds cc s = true →
        exec (Forms.callCc cc a) s = .next { push16 s.cpu.pc s with cpu.pc := a, cpu.cycles := 24 }) ∧
      (condHolds cc s = false → exec (Forms.callCc cc a) s = .next { s with cpu.cycles := 12 })) ∧
    (encode (Forms.rst y) = [Forms.fieldsXYZ 3 (BitVec.ofNat 3 y.val) 7] ∧
      exec (Forms.rst y) s =
        .next { push16 s.cpu.pc s with cpu.pc := BitVec.ofNat 16 (8 * y.val), cpu.cycles := 16 })

/-- RET, RET cc and RETI: PC is popped; RETI also sets IME at once and cancels a pending EI (R208 to R210). -/
def Obligations.Returns : Prop :=
  ∀ (s : State) (cc : Cond),
    let v := (pop16 s).1
    let s1 := (pop16 s).2
    (encode .ret = [0xC9] ∧ exec .ret s = .next { s1 with cpu.pc := v, cpu.cycles := 16 }) ∧
    (encode (Forms.retCc cc) = [(6 : BitVec 3) ++ Forms.condCode cc ++ (0 : BitVec 3)] ∧
      (condHolds cc s = true → exec (Forms.retCc cc) s = .next { s1 with cpu.pc := v, cpu.cycles := 20 }) ∧
      (condHolds cc s = false → exec (Forms.retCc cc) s = .next { s with cpu.cycles := 8 })) ∧
    (encode .reti = [0xD9] ∧ exec .reti s = .next { s1 with
      cpu.pc := v, cpu.ime := true, cpu.eiDelay := 0, cpu.cycles := 16 })

/-! ## System instructions -/

/-- NOP does nothing, DI disables interrupts at once and cancels a pending EI, EI arms its delay only when none counts
(R220, R223, R224). -/
def Obligations.NopDiEi : Prop :=
  ∀ s : State,
    (encode .nop = [0x00] ∧ exec .nop s = .next { s with cpu.cycles := 4 }) ∧
    (encode .di = [0xF3] ∧ exec .di s = .next { s with cpu.ime := false, cpu.eiDelay := 0, cpu.cycles := 4 }) ∧
    (encode .ei = [0xFB] ∧ exec .ei s = .next { s with
      cpu.eiDelay := if s.cpu.eiDelay = 0 then 2 else s.cpu.eiDelay, cpu.cycles := 4 })

/-! ## Rules of the whole machine -/

/-- The flags: every instruction obeys its row of the table of R25, and one without a row keeps all four; a dispatch keeps
F. The table is the spec's own summary ("[derived: from the rules of files 41 to 45 cited in each row]"). -/
def Obligations.FlagWriters : Prop :=
  (∀ (i : Instr) (s t : State), exec i s = .next t →
    let row := Forms.flagRow (encode i)
    row.z.allows (flagZ s) (flagZ t) ∧ row.n.allows (flagN s) (flagN t) ∧
      row.h.allows (flagH s) (flagH t) ∧ row.c.allows (flagC s) (flagC t)) ∧
  ∀ s : State, (takeInterrupt s).cpu.f = s.cpu.f

/-- IME changes only by EI after its delay, by DI, by RETI and by a dispatch, and no address reads or writes it (R27). -/
def Obligations.ImeWriters : Prop :=
  (∀ (i : Instr) (s t : State), exec i s = .next t →
    (i = .di → t.cpu.ime = false) ∧ (i = .reti → t.cpu.ime = true) ∧
      (i ≠ .di → i ≠ .reti → t.cpu.ime = s.cpu.ime)) ∧
  (∀ s : State, (boundary s).cpu.ime = (s.cpu.ime || s.cpu.eiDelay == 1)) ∧
  (∀ s : State, (takeInterrupt s).cpu.ime = false) ∧
  (∀ (n : Nat) (s : State), (ppuAdvance n s).cpu.ime = s.cpu.ime) ∧
  (∀ (m : HostMove) (s : State), (hostMove m s).cpu.ime = s.cpu.ime) ∧
  (∀ (a : Word) (v : Byte) (x : Bool) (s : State),
    (memWrite a v s).cpu.ime = s.cpu.ime ∧ byteAt a { s with cpu.ime := x } = byteAt a s)

/-- Every byte that an instruction does not store to reads after it as before; a form that stores nothing leaves every
byte. The addresses stored to are computed in the state before the instruction (R67, R122 to R138, R142, R158, R159, R178,
R206, R207, R211). A collaborator's address is not touched by a store: that the byte promised for it stands after a store
to it is the model's choice (log entry 10). -/
def Obligations.StoresTouchOnlyTheirBytes : Prop :=
  ∀ (i : Instr) (s t : State), BusInv s → exec i s = .next t →
    ∀ b : Word, (∀ a ∈ Forms.storesTo i s, Forms.touches a b = false) → byteAt b t = byteAt b s

/-- The CPU reaches the PPU only through its registers: no instruction and no dispatch changes LY, the mode, the dot, the
window line counter, the framebuffer or the rest of the timing state (R36, R40). -/
def Obligations.CpuKeepsPpuTiming : Prop :=
  ∀ s t : State, cpuStep s = .next t →
    t.ppu.mode = s.ppu.mode ∧ t.ppu.ly = s.ppu.ly ∧ t.ppu.dot = s.ppu.dot ∧ t.ppu.windowLine = s.ppu.windowLine ∧
      t.ppu.lcdRunning = s.ppu.lcdRunning ∧ t.ppu.offDots = s.ppu.offDots ∧
      t.ppu.framebuffer = s.ppu.framebuffer ∧ t.ppu.frameEvent = s.ppu.frameEvent

/-- The PPU's advance changes nothing but the PPU's own state and bits 0 and 1 of IF, which it only sets: the CPU, IE, all
storage and the PPU's registers stay (R20, R40, R240, R260). -/
def Obligations.AdvanceTouchesOnlyThePpu : Prop :=
  ∀ (n : Nat) (s : State), let t := ppuAdvance n s
    t.cpu = s.cpu ∧ t.bus = s.bus ∧ t.env = s.env ∧ t.irq.ie = s.irq.ie ∧
    (t.irq.ifr.extractLsb' 2 3 = s.irq.ifr.extractLsb' 2 3 ∧ t.irq.ifr &&& s.irq.ifr = s.irq.ifr) ∧
    (t.ppu.lcdc = s.ppu.lcdc ∧ t.ppu.statEn = s.ppu.statEn ∧ t.ppu.scy = s.ppu.scy ∧ t.ppu.scx = s.ppu.scx ∧
      t.ppu.lyc = s.ppu.lyc ∧ t.ppu.bgp = s.ppu.bgp ∧ t.ppu.obp0 = s.ppu.obp0 ∧ t.ppu.obp1 = s.ppu.obp1 ∧
      t.ppu.wy = s.ppu.wy ∧ t.ppu.wx = s.ppu.wx)

/-! ## Interrupts -/

/-- The boundary counts a pending EI down (R232); the check dispatches once when IME is set and a request is pending and
enabled (R234, R242), for 20 cycles more; a dispatch serves the lowest-numbered such request: it clears IME, the pending EI
and that request, ends HALT, pushes PC and goes to 0x0040 + 8k (R233, R243). -/
def Obligations.InterruptDispatch : Prop :=
  (∀ s : State,
    (s.cpu.eiDelay = 0 → boundary s = s) ∧
    (s.cpu.eiDelay = 1 → boundary s = { s with cpu.eiDelay := 0, cpu.ime := true }) ∧
    (s.cpu.eiDelay = 2 → boundary s = { s with cpu.eiDelay := 1 })) ∧
  (∀ s : State,
    pendingAndEnabled s = s.irq.ie.extractLsb' 0 5 &&& s.irq.ifr ∧
    (s.cpu.ime = false ∨ pendingAndEnabled s = 0 → interruptCheck s = s) ∧
    (s.cpu.ime = true → pendingAndEnabled s ≠ 0 →
      interruptCheck s = { takeInterrupt s with cpu.cycles := s.cpu.cycles + 20 })) ∧
  (∀ (s : State) (k : Nat), k < 5 → s.irq.ie.getLsbD k = true → s.irq.ifr.getLsbD k = true →
    (∀ j < k, (s.irq.ie.getLsbD j && s.irq.ifr.getLsbD j) = false) →
    takeInterrupt s = { push16 s.cpu.pc { s with
        cpu.ime := false, cpu.eiDelay := 0, cpu.halted := false
        irq.ifr := s.irq.ifr &&& ~~~(1#5 <<< k) } with
      cpu.pc := BitVec.ofNat 16 (0x0040 + 8 * k) })

/-- PC is the only state a dispatch saves: the CPU keeps every register and flag but PC, SP, IME, the pending EI and
`halted`; the two bytes below SP hold PC, low byte lower; every byte they do not touch but IF is unchanged
(R70, R233, and R235, which the spec marks as derived). Two parts are the model's: a collaborator's promised byte stands after
the push writes to its address (log entry 10, a choice), and the HALT-bug latch is kept (log entry 12, deduced from R97
and R233). -/
def Obligations.DispatchSavesOnlyPc : Prop :=
  ∀ s : State, BusInv s → pendingAndEnabled s ≠ 0 →
    let t := takeInterrupt s
    (t.cpu = { s.cpu with
      pc := t.cpu.pc, sp := s.cpu.sp - 2, ime := false, eiDelay := 0, halted := false } ∧
      t.cpu.pc ∈ [0x0040, 0x0048, 0x0050, 0x0058, 0x0060]) ∧
    (∀ j k, route (s.cpu.sp - 1) = .storage j → route (s.cpu.sp - 2) = .storage k →
      byteAt (s.cpu.sp - 1) t = some (s.cpu.pc.extractLsb' 8 8) ∧
        byteAt (s.cpu.sp - 2) t = some (s.cpu.pc.extractLsb' 0 8)) ∧
    (∀ b, b ≠ 0xFF0F → Forms.touches (s.cpu.sp - 1) b = false → Forms.touches (s.cpu.sp - 2) b = false →
      byteAt b t = byteAt b s)

/-- RETI at once after a dispatch, with the stack in storage, goes on where the interrupted program was, with SP back and
interrupts enabled (R210, R233, and R248, which the spec marks as derived). That the HALT-bug latch is kept through the dispatch is deduced (log
entry 12). -/
def Obligations.RetiUndoesDispatch : Prop :=
  ∀ (s : State) (j k : Nat), BusInv s → pendingAndEnabled s ≠ 0 →
    route (s.cpu.sp - 1) = .storage j → route (s.cpu.sp - 2) = .storage k →
    ∃ t, exec .reti (takeInterrupt s) = .next t ∧
      t.cpu = { s.cpu with ime := true, eiDelay := 0, halted := false, cycles := 16 }

/-- EI enables interrupts only after the instruction that follows it: after EI's own boundary IME is as it was, after the
next instruction's it is set, unless that instruction is DI (R224, R232, R321). -/
def Obligations.EiTakesEffectOneInstructionLater : Prop :=
  ∀ s t : State, s.cpu.eiDelay = 0 → exec .ei s = .next t →
    (boundary t).cpu.ime = s.cpu.ime ∧ (boundary t).cpu.eiDelay = 1 ∧
    ∀ (i : Instr) (u v : State), u.cpu.eiDelay = 1 → u.cpu.ime = s.cpu.ime → exec i u = .next v →
      (i ≠ .di → (boundary v).cpu.ime = true ∧ (boundary v).cpu.eiDelay = 0) ∧
      (i = .di → (boundary v).cpu.ime = false ∧ (boundary v).cpu.eiDelay = 0)

/-! ## The PPU -/

/-- With the display on, n dots move the frame position 456*LY + dot by n modulo 70224, count one frame boundary for each
wrap, and the mode is the one the line and the dot give: 80, 172 and 204 dots on a visible line, 456 in V-blank
(R42, R262, R266). -/
def Obligations.FrameTiming : Prop :=
  ∀ (n : Nat) (s : State), Forms.Displaying s → s.ppu.mode = modeAt s.ppu.ly s.ppu.dot →
    let t := ppuTicks n s
    Forms.Displaying t ∧ Forms.framePos t = (Forms.framePos s + n) % 70224 ∧
      t.ppu.frameEvent = s.ppu.frameEvent + (Forms.framePos s + n) / 70224 ∧
      t.ppu.mode = modeAt t.ppu.ly t.ppu.dot

/-- The V-blank request is raised in the tick where LY becomes 144, and only then; with the display on from reset, that is
first at the end of dot 65664 (R265). -/
def Obligations.VblankRequest : Prop :=
  (∀ s : State, Forms.Displaying s →
    let t := ppuTick s
    (t.irq.ifr.getLsbD 0 = (s.irq.ifr.getLsbD 0 || (s.ppu.dot == 455 && s.ppu.ly == 143))) ∧
      (s.ppu.ly ≠ 144 ∧ t.ppu.ly = 144 ↔ s.ppu.dot = 455 ∧ s.ppu.ly = 143)) ∧
  (∀ s : State, s.ppu.lcdc.getLsbD 7 = false → (ppuTick s).irq = s.irq) ∧
  ((ppuTicks 65664 State.reset).ppu.ly = 144 ∧ ∀ n < 65664, (ppuTicks n State.reset).ppu.ly ≠ 144)

/-- The STAT request: a tick raises it exactly on entry to a mode whose enable bit is set, or when LY comes to equal LYC
with STAT[6] set; mode 3 raises none, nor does a write to LYC, nor the display's being off (R263, R264). -/
def Obligations.StatRequests : Prop :=
  (∀ s : State, Forms.Displaying s →
    let t := ppuTick s
    let en := s.ppu.statEn
    let line := Forms.lineAfter s.ppu.ly
    let visible := decide (s.ppu.ly.toNat < 144)
    let raised := (s.ppu.dot == 251 && visible && en.getLsbD 0) ||
      (s.ppu.dot == 455 && ((line == s.ppu.lyc && en.getLsbD 3) || (line == 144 && en.getLsbD 1) ||
        (decide (line.toNat < 144) && en.getLsbD 2)))
    t.irq.ifr.getLsbD 1 = (s.irq.ifr.getLsbD 1 || raised)) ∧
  (∀ (m : PpuMode) (s : State), (setMode m s).ppu = { s.ppu with mode := m } ∧
    (readStat (setMode m s).ppu).extractLsb' 0 2 = m.code) ∧
  (∀ (s : State) (v : Byte), (memWrite 0xFF45 v s).irq = s.irq) ∧
  (∀ s : State, (readStat s.ppu).getLsbD 2 = decide (s.ppu.ly = s.ppu.lyc)) ∧
  (∀ s : State, s.ppu.lcdc.getLsbD 7 = false → (ppuTick s).irq = s.irq)

/-- The display's switch. Off: from the first dot the PPU holds line 0, dot 0, mode 0, window line 0 and the blank frame,
raises nothing, and counts a blank frame boundary every 70224 dots. On again: the next dot is dot 1 of line 0 of a new frame
in mode 2, which may raise STAT (R267, R268). -/
def Obligations.DisplayOffAndOn : Prop :=
  (∀ (n : Nat) (s : State), s.ppu.lcdc.getLsbD 7 = false → s.ppu.lcdRunning = true →
    ppuTicks (n + 1) s = { s with
      ppu.lcdRunning := false, ppu.ly := 0, ppu.dot := 0, ppu.mode := .hblank, ppu.windowLine := 0
      ppu.framebuffer := List.replicate 144 (List.replicate 160 0)
      ppu.offDots := (n + 1) % 70224, ppu.frameEvent := s.ppu.frameEvent + (n + 1) / 70224 }) ∧
  (∀ s : State, s.ppu.lcdc.getLsbD 7 = true → s.ppu.lcdRunning = false →
    ppuTick s = { s with
      ppu.lcdRunning := true, ppu.ly := 0, ppu.dot := 1, ppu.offDots := 0, ppu.mode := .oamScan
      irq.ifr := if s.ppu.statEn.getLsbD 2 then s.irq.ifr ||| 0b00010 else s.irq.ifr })

/-- A visible line is rendered once, in the tick that ends mode 3: that tick writes all 160 pixels of row LY from the
values of that instant, and steps the window line counter if the window is active; no other tick changes the framebuffer,
and the counter is reset at the frame boundary only (R262, R270, R271, R281). -/
def Obligations.RenderPoint : Prop :=
  ∀ s : State, Forms.Displaying s →
    (let t := ppuTick s
     if s.ppu.dot = 251 ∧ s.ppu.ly.toNat < 144 then
       t.ppu.framebuffer = s.ppu.framebuffer.set s.ppu.ly.toNat (lineShades s.ppu.ly s) ∧
         t.ppu.windowLine = if windowActive s.ppu.ly s then s.ppu.windowLine + 1 else s.ppu.windowLine
     else t.ppu.framebuffer = s.ppu.framebuffer ∧
       t.ppu.windowLine = if s.ppu.dot = 455 ∧ s.ppu.ly = 153 then 0 else s.ppu.windowLine) ∧
    (lineShades s.ppu.ly s).length = 160 ∧
    (∀ x < 160, (lineShades s.ppu.ly s)[x]? =
      some (pixel s.ppu.ly (priorityOrder s.env.cfg.objPriority (selectedSprites s.ppu.ly s)) s x))

/-- Tile data, background and window: the colour index of a pixel from the stored tile map and tile bytes; every tile byte
lies in 0x8000 to 0x97FF (R272 to R274). -/
def Obligations.PlanePixels : Prop :=
  ∀ (s : State) (line t : Byte) (x c r : Nat) (unsignedMode : Bool), x < 160 → c < 8 → r < 8 →
    (tilePixel t c r unsignedMode s = Forms.tileColour t c r unsignedMode s ∧
      0x8000 ≤ Forms.tileBase t unsignedMode + 2 * r ∧ Forms.tileBase t unsignedMode + 2 * r + 1 ≤ 0x97FF) ∧
    (let bx := (x + s.ppu.scx.toNat) % 256
     let by_ := (line.toNat + s.ppu.scy.toNat) % 256
     bgIndex line x s =
       Forms.tileColour (Forms.mapTile (Forms.lcdc 3 s) bx by_ s) (bx % 8) (by_ % 8) (Forms.lcdc 4 s) s) ∧
    (windowActive line s =
      (Forms.lcdc 5 s && Forms.lcdc 0 s && decide (line.toNat ≥ s.ppu.wy.toNat) &&
        decide (s.ppu.wx.toNat ≤ 166))) ∧
    (s.ppu.wx.toNat ≤ x + 7 →
      let wx := x + 7 - s.ppu.wx.toNat
      let wy := s.ppu.windowLine.toNat
      windowIndex x s =
        Forms.tileColour (Forms.mapTile (Forms.lcdc 6 s) wx wy s) (wx % 8) (wy % 8) (Forms.lcdc 4 s) s)

/-- Sprite selection: the OAM entries that meet the line, in table order, at most ten and the first ten; none with LCDC[1]
clear; X takes no part (R275, R282). -/
def Obligations.SpriteSelection : Prop :=
  ∀ (s : State) (line : Byte),
    let h := if Forms.lcdc 2 s then 16 else 8
    let entry (i : Nat) : Sprite :=
      { y := Forms.oamByte i 0 s, x := Forms.oamByte i 1 s, tile := Forms.oamByte i 2 s, attr := Forms.oamByte i 3 s }
    let meets (sp : Sprite) : Bool :=
      decide (sp.y.toNat ≤ line.toNat + 16) && decide (line.toNat + 16 < sp.y.toNat + h)
    let sel := selectedSprites line s
    (Forms.lcdc 1 s = false → sel = []) ∧
    (Forms.lcdc 1 s = true → sel = (((List.range 40).map entry).filter meets).take 10) ∧
    sel.length ≤ 10 ∧ (∀ sp ∈ sel, meets sp = true)

/-- A sprite's pixel: the columns it covers, the flips, and the two tiles of a tall sprite (R276). -/
def Obligations.SpritePixels : Prop :=
  ∀ (s : State) (sp : Sprite) (line : Byte) (x : Nat),
    let h := if Forms.lcdc 2 s then 16 else 8
    let col0 := x + 8 - sp.x.toNat
    let row0 := line.toNat + 16 - sp.y.toNat
    let col := if sp.attr.getLsbD 5 then 7 - col0 else col0
    let row := if sp.attr.getLsbD 6 then h - 1 - row0 else row0
    let tile := if h = 16 then (sp.tile &&& 0xFE) ||| BitVec.ofNat 8 (row / 8) else sp.tile
    (covers sp x = true ↔ sp.x.toNat ≤ x + 8 ∧ x + 8 - sp.x.toNat < 8) ∧
    (covers sp x = true → sp.y.toNat ≤ line.toNat + 16 → line.toNat + 16 < sp.y.toNat + h →
      spriteIndex sp line x s = Forms.tileColour tile col (row % 8) true s)

/-- The order in which a line's sprites are tried: table order, or by ascending X with table order among equal X (R278). -/
def Obligations.SpriteOrder : Prop :=
  (∀ l : List Sprite, priorityOrder .oamIndex l = l) ∧
  (∀ l : List Sprite,
    (priorityOrder .dmgX l).Perm l ∧ (priorityOrder .dmgX l).Pairwise (fun p q => p.x.toNat ≤ q.x.toNat) ∧
      ∀ x : Byte, (priorityOrder .dmgX l).filter (fun p => p.x == x) = l.filter (fun p => p.x == x))

/-- The composition of a pixel: background or window through BGP, or index and shade 0 with LCDC[0] clear; the first sprite
in order that covers the column with a non-zero index shows through its palette, unless its priority bit yields to a
non-zero index below, and then no later sprite shows (R277, R279, R280). -/
def Obligations.PixelComposition : Prop :=
  ∀ (s : State) (line : Byte) (x : Nat),
    (Forms.lcdc 0 s = false → underIndex line x s = 0 ∧ underShade line x s = 0) ∧
    (Forms.lcdc 0 s = true →
      underIndex line x s =
          (if windowActive line s = true ∧ s.ppu.wx.toNat ≤ x + 7 then windowIndex x s else bgIndex line x s) ∧
        underShade line x s = (s.ppu.bgp >>> (2 * (underIndex line x s).toNat)).extractLsb' 0 2) ∧
    (∀ sel : List Sprite, (∀ q ∈ sel, covers q x = false ∨ spriteIndex q line x s = 0) →
      pixel line sel s x = underShade line x s) ∧
    (∀ (before after : List Sprite) (sp : Sprite),
      (∀ q ∈ before, covers q x = false ∨ spriteIndex q line x s = 0) →
      covers sp x = true → spriteIndex sp line x s ≠ 0 →
      pixel line (before ++ sp :: after) s x =
        if sp.attr.getLsbD 7 = true ∧ underIndex line x s ≠ 0 then underShade line x s
        else ((if sp.attr.getLsbD 4 then s.ppu.obp1 else s.ppu.obp0) >>>
          (2 * (spriteIndex sp line x s).toNat)).extractLsb' 0 2)
end

