-- ==== Sys2Proof/Laws/Bits.lean ====
section
/-! SUPPORT. The byte-order and bit-field helpers: a word and its two bytes, a bit put into a byte, the flags put into F. -/

namespace Sys2Proof

@[simp] theorem hiByte_word16 (hi lo : Byte) : hiByte (word16 hi lo) = hi := by
  apply BitVec.eq_of_getLsbD_eq
  intro i hlt
  simp only [hiByte, word16, BitVec.getLsbD_extractLsb', BitVec.getLsbD_append, hlt, decide_true, Bool.true_and]
  simp

@[simp] theorem loByte_word16 (hi lo : Byte) : loByte (word16 hi lo) = lo := by
  apply BitVec.eq_of_getLsbD_eq
  intro i hlt
  simp only [loByte, word16, BitVec.getLsbD_extractLsb', BitVec.getLsbD_append, hlt, decide_true, Bool.true_and]
  simp [hlt]

@[simp] theorem word16_hi_lo (w : Word) : word16 (hiByte w) (loByte w) = w := by
  apply BitVec.eq_of_getLsbD_eq
  intro i hlt
  simp only [word16, hiByte, loByte, BitVec.getLsbD_append, BitVec.getLsbD_extractLsb']
  by_cases hi : i < 8
  · simp [hi]
  · simp [hi, show 8 + (i - 8) = i by omega, show i - 8 < 8 by omega]

/-- A bit of a byte after another bit was put. -/
@[simp] theorem getLsbD_putBit (i j : Nat) (v : Bool) (x : Byte) (hi : i < 8) :
    (putBit i v x).getLsbD j = if j = i then v else x.getLsbD j := by
  have ht : (BitVec.twoPow 8 i).getLsbD j = decide (i = j) := by
    simp only [BitVec.getLsbD_twoPow, hi, decide_true, Bool.true_and]
  have hx : j < 8 ∨ x.getLsbD j = false ∧ j ≠ i := by
    by_cases h : j < 8
    · exact .inl h
    · exact .inr ⟨BitVec.getLsbD_of_ge x j (by omega), by omega⟩
  cases v
  · simp only [putBit, Bool.false_eq_true, if_false, BitVec.getLsbD_and, BitVec.getLsbD_not, ht]
    by_cases h : j = i
    · simp [h]
    · rcases hx with hx | hx <;> simp [h, hx, Ne.symm h]
  · simp only [putBit, if_true, BitVec.getLsbD_or, ht]
    by_cases h : j = i
    · simp [h]
    · simp [h, Ne.symm h]

namespace Machine

/-- A bit of F after one entry of a flag line. -/
@[simp] theorem getLsbD_putFlag (i j : Nat) (v : Option Bool) (x : Byte) (hi : i < 8) :
    (putFlag i v x).getLsbD j = if j = i then v.getD (x.getLsbD j) else x.getLsbD j := by
  cases v <;> simp [putFlag, hi]

end Machine

end Sys2Proof
end

