-- ==== Sys2Proof/Laws/State.lean ====
section
/-! SUPPORT. The state after each named update, field by field, so that no later proof unfolds a record update. -/

namespace Sys2Proof.Machine

/-! ## setPc -/

@[simp] theorem setPc_a (v : Word) (s : State) : (setPc v s).cpu.a = s.cpu.a := rfl
@[simp] theorem setPc_f (v : Word) (s : State) : (setPc v s).cpu.f = s.cpu.f := rfl
@[simp] theorem setPc_b (v : Word) (s : State) : (setPc v s).cpu.b = s.cpu.b := rfl
@[simp] theorem setPc_c (v : Word) (s : State) : (setPc v s).cpu.c = s.cpu.c := rfl
@[simp] theorem setPc_d (v : Word) (s : State) : (setPc v s).cpu.d = s.cpu.d := rfl
@[simp] theorem setPc_e (v : Word) (s : State) : (setPc v s).cpu.e = s.cpu.e := rfl
@[simp] theorem setPc_h (v : Word) (s : State) : (setPc v s).cpu.h = s.cpu.h := rfl
@[simp] theorem setPc_l (v : Word) (s : State) : (setPc v s).cpu.l = s.cpu.l := rfl
@[simp] theorem setPc_sp (v : Word) (s : State) : (setPc v s).cpu.sp = s.cpu.sp := rfl
@[simp] theorem setPc_pc (v : Word) (s : State) : (setPc v s).cpu.pc = v := rfl
@[simp] theorem setPc_ime (v : Word) (s : State) : (setPc v s).cpu.ime = s.cpu.ime := rfl
@[simp] theorem setPc_eiDelay (v : Word) (s : State) : (setPc v s).cpu.eiDelay = s.cpu.eiDelay := rfl
@[simp] theorem setPc_halted (v : Word) (s : State) : (setPc v s).cpu.halted = s.cpu.halted := rfl
@[simp] theorem setPc_stopped (v : Word) (s : State) : (setPc v s).cpu.stopped = s.cpu.stopped := rfl
@[simp] theorem setPc_haltBugLatch (v : Word) (s : State) : (setPc v s).cpu.haltBugLatch = s.cpu.haltBugLatch := rfl
@[simp] theorem setPc_cycles (v : Word) (s : State) : (setPc v s).cpu.cycles = s.cpu.cycles := rfl
@[simp] theorem setPc_irq (v : Word) (s : State) : (setPc v s).irq = s.irq := rfl
@[simp] theorem setPc_ppu (v : Word) (s : State) : (setPc v s).ppu = s.ppu := rfl
@[simp] theorem setPc_bus (v : Word) (s : State) : (setPc v s).bus = s.bus := rfl
@[simp] theorem setPc_env (v : Word) (s : State) : (setPc v s).env = s.env := rfl

/-! ## setSp -/

@[simp] theorem setSp_a (v : Word) (s : State) : (setSp v s).cpu.a = s.cpu.a := rfl
@[simp] theorem setSp_f (v : Word) (s : State) : (setSp v s).cpu.f = s.cpu.f := rfl
@[simp] theorem setSp_b (v : Word) (s : State) : (setSp v s).cpu.b = s.cpu.b := rfl
@[simp] theorem setSp_c (v : Word) (s : State) : (setSp v s).cpu.c = s.cpu.c := rfl
@[simp] theorem setSp_d (v : Word) (s : State) : (setSp v s).cpu.d = s.cpu.d := rfl
@[simp] theorem setSp_e (v : Word) (s : State) : (setSp v s).cpu.e = s.cpu.e := rfl
@[simp] theorem setSp_h (v : Word) (s : State) : (setSp v s).cpu.h = s.cpu.h := rfl
@[simp] theorem setSp_l (v : Word) (s : State) : (setSp v s).cpu.l = s.cpu.l := rfl
@[simp] theorem setSp_sp (v : Word) (s : State) : (setSp v s).cpu.sp = v := rfl
@[simp] theorem setSp_pc (v : Word) (s : State) : (setSp v s).cpu.pc = s.cpu.pc := rfl
@[simp] theorem setSp_ime (v : Word) (s : State) : (setSp v s).cpu.ime = s.cpu.ime := rfl
@[simp] theorem setSp_eiDelay (v : Word) (s : State) : (setSp v s).cpu.eiDelay = s.cpu.eiDelay := rfl
@[simp] theorem setSp_halted (v : Word) (s : State) : (setSp v s).cpu.halted = s.cpu.halted := rfl
@[simp] theorem setSp_stopped (v : Word) (s : State) : (setSp v s).cpu.stopped = s.cpu.stopped := rfl
@[simp] theorem setSp_haltBugLatch (v : Word) (s : State) : (setSp v s).cpu.haltBugLatch = s.cpu.haltBugLatch := rfl
@[simp] theorem setSp_cycles (v : Word) (s : State) : (setSp v s).cpu.cycles = s.cpu.cycles := rfl
@[simp] theorem setSp_irq (v : Word) (s : State) : (setSp v s).irq = s.irq := rfl
@[simp] theorem setSp_ppu (v : Word) (s : State) : (setSp v s).ppu = s.ppu := rfl
@[simp] theorem setSp_bus (v : Word) (s : State) : (setSp v s).bus = s.bus := rfl
@[simp] theorem setSp_env (v : Word) (s : State) : (setSp v s).env = s.env := rfl

/-! ## setCycles -/

@[simp] theorem setCycles_a (n : Nat) (s : State) : (setCycles n s).cpu.a = s.cpu.a := rfl
@[simp] theorem setCycles_f (n : Nat) (s : State) : (setCycles n s).cpu.f = s.cpu.f := rfl
@[simp] theorem setCycles_b (n : Nat) (s : State) : (setCycles n s).cpu.b = s.cpu.b := rfl
@[simp] theorem setCycles_c (n : Nat) (s : State) : (setCycles n s).cpu.c = s.cpu.c := rfl
@[simp] theorem setCycles_d (n : Nat) (s : State) : (setCycles n s).cpu.d = s.cpu.d := rfl
@[simp] theorem setCycles_e (n : Nat) (s : State) : (setCycles n s).cpu.e = s.cpu.e := rfl
@[simp] theorem setCycles_h (n : Nat) (s : State) : (setCycles n s).cpu.h = s.cpu.h := rfl
@[simp] theorem setCycles_l (n : Nat) (s : State) : (setCycles n s).cpu.l = s.cpu.l := rfl
@[simp] theorem setCycles_sp (n : Nat) (s : State) : (setCycles n s).cpu.sp = s.cpu.sp := rfl
@[simp] theorem setCycles_pc (n : Nat) (s : State) : (setCycles n s).cpu.pc = s.cpu.pc := rfl
@[simp] theorem setCycles_ime (n : Nat) (s : State) : (setCycles n s).cpu.ime = s.cpu.ime := rfl
@[simp] theorem setCycles_eiDelay (n : Nat) (s : State) : (setCycles n s).cpu.eiDelay = s.cpu.eiDelay := rfl
@[simp] theorem setCycles_halted (n : Nat) (s : State) : (setCycles n s).cpu.halted = s.cpu.halted := rfl
@[simp] theorem setCycles_stopped (n : Nat) (s : State) : (setCycles n s).cpu.stopped = s.cpu.stopped := rfl
@[simp] theorem setCycles_haltBugLatch (n : Nat) (s : State) : (setCycles n s).cpu.haltBugLatch = s.cpu.haltBugLatch := rfl
@[simp] theorem setCycles_cycles (n : Nat) (s : State) : (setCycles n s).cpu.cycles = n := rfl
@[simp] theorem setCycles_irq (n : Nat) (s : State) : (setCycles n s).irq = s.irq := rfl
@[simp] theorem setCycles_ppu (n : Nat) (s : State) : (setCycles n s).ppu = s.ppu := rfl
@[simp] theorem setCycles_bus (n : Nat) (s : State) : (setCycles n s).bus = s.bus := rfl
@[simp] theorem setCycles_env (n : Nat) (s : State) : (setCycles n s).env = s.env := rfl

/-! ## writeFlags -/

@[simp] theorem writeFlags_a (z n h c : Option Bool) (s : State) : (writeFlags z n h c s).cpu.a = s.cpu.a := rfl
@[simp] theorem writeFlags_f (z n h c : Option Bool) (s : State) : (writeFlags z n h c s).cpu.f = putFlag 7 z (putFlag 6 n (putFlag 5 h (putFlag 4 c s.cpu.f))) := rfl
@[simp] theorem writeFlags_b (z n h c : Option Bool) (s : State) : (writeFlags z n h c s).cpu.b = s.cpu.b := rfl
@[simp] theorem writeFlags_c (z n h c : Option Bool) (s : State) : (writeFlags z n h c s).cpu.c = s.cpu.c := rfl
@[simp] theorem writeFlags_d (z n h c : Option Bool) (s : State) : (writeFlags z n h c s).cpu.d = s.cpu.d := rfl
@[simp] theorem writeFlags_e (z n h c : Option Bool) (s : State) : (writeFlags z n h c s).cpu.e = s.cpu.e := rfl
@[simp] theorem writeFlags_h (z n h c : Option Bool) (s : State) : (writeFlags z n h c s).cpu.h = s.cpu.h := rfl
@[simp] theorem writeFlags_l (z n h c : Option Bool) (s : State) : (writeFlags z n h c s).cpu.l = s.cpu.l := rfl
@[simp] theorem writeFlags_sp (z n h c : Option Bool) (s : State) : (writeFlags z n h c s).cpu.sp = s.cpu.sp := rfl
@[simp] theorem writeFlags_pc (z n h c : Option Bool) (s : State) : (writeFlags z n h c s).cpu.pc = s.cpu.pc := rfl
@[simp] theorem writeFlags_ime (z n h c : Option Bool) (s : State) : (writeFlags z n h c s).cpu.ime = s.cpu.ime := rfl
@[simp] theorem writeFlags_eiDelay (z n h c : Option Bool) (s : State) : (writeFlags z n h c s).cpu.eiDelay = s.cpu.eiDelay := rfl
@[simp] theorem writeFlags_halted (z n h c : Option Bool) (s : State) : (writeFlags z n h c s).cpu.halted = s.cpu.halted := rfl
@[simp] theorem writeFlags_stopped (z n h c : Option Bool) (s : State) : (writeFlags z n h c s).cpu.stopped = s.cpu.stopped := rfl
@[simp] theorem writeFlags_haltBugLatch (z n h c : Option Bool) (s : State) : (writeFlags z n h c s).cpu.haltBugLatch = s.cpu.haltBugLatch := rfl
@[simp] theorem writeFlags_cycles (z n h c : Option Bool) (s : State) : (writeFlags z n h c s).cpu.cycles = s.cpu.cycles := rfl
@[simp] theorem writeFlags_irq (z n h c : Option Bool) (s : State) : (writeFlags z n h c s).irq = s.irq := rfl
@[simp] theorem writeFlags_ppu (z n h c : Option Bool) (s : State) : (writeFlags z n h c s).ppu = s.ppu := rfl
@[simp] theorem writeFlags_bus (z n h c : Option Bool) (s : State) : (writeFlags z n h c s).bus = s.bus := rfl
@[simp] theorem writeFlags_env (z n h c : Option Bool) (s : State) : (writeFlags z n h c s).env = s.env := rfl

/-! ## request -/

@[simp] theorem request_cpu (k : Nat) (s : State) : (request k s).cpu = s.cpu := rfl
@[simp] theorem request_ppu (k : Nat) (s : State) : (request k s).ppu = s.ppu := rfl
@[simp] theorem request_bus (k : Nat) (s : State) : (request k s).bus = s.bus := rfl
@[simp] theorem request_env (k : Nat) (s : State) : (request k s).env = s.env := rfl
@[simp] theorem request_ie (k : Nat) (s : State) : (request k s).irq.ie = s.irq.ie := rfl
@[simp] theorem request_ifr (k : Nat) (s : State) : (request k s).irq.ifr = s.irq.ifr ||| BitVec.twoPow 5 k := rfl

/-! ## ack -/

@[simp] theorem ack_cpu (k : Nat) (s : State) : (ack k s).cpu = s.cpu := rfl
@[simp] theorem ack_ppu (k : Nat) (s : State) : (ack k s).ppu = s.ppu := rfl
@[simp] theorem ack_bus (k : Nat) (s : State) : (ack k s).bus = s.bus := rfl
@[simp] theorem ack_env (k : Nat) (s : State) : (ack k s).env = s.env := rfl
@[simp] theorem ack_ie (k : Nat) (s : State) : (ack k s).irq.ie = s.irq.ie := rfl
@[simp] theorem ack_ifr (k : Nat) (s : State) : (ack k s).irq.ifr = s.irq.ifr &&& ~~~(BitVec.twoPow 5 k) := rfl

/-! ## writeReg8 and writePair -/

@[simp] theorem writeReg8_f (r : Reg8) (v : Byte) (s : State) : (writeReg8 r v s).cpu.f = s.cpu.f := by cases r <;> rfl
@[simp] theorem writeReg8_sp (r : Reg8) (v : Byte) (s : State) : (writeReg8 r v s).cpu.sp = s.cpu.sp := by cases r <;> rfl
@[simp] theorem writeReg8_pc (r : Reg8) (v : Byte) (s : State) : (writeReg8 r v s).cpu.pc = s.cpu.pc := by cases r <;> rfl
@[simp] theorem writeReg8_ime (r : Reg8) (v : Byte) (s : State) : (writeReg8 r v s).cpu.ime = s.cpu.ime := by cases r <;> rfl
@[simp] theorem writeReg8_eiDelay (r : Reg8) (v : Byte) (s : State) : (writeReg8 r v s).cpu.eiDelay = s.cpu.eiDelay := by cases r <;> rfl
@[simp] theorem writeReg8_halted (r : Reg8) (v : Byte) (s : State) : (writeReg8 r v s).cpu.halted = s.cpu.halted := by cases r <;> rfl
@[simp] theorem writeReg8_stopped (r : Reg8) (v : Byte) (s : State) : (writeReg8 r v s).cpu.stopped = s.cpu.stopped := by cases r <;> rfl
@[simp] theorem writeReg8_haltBugLatch (r : Reg8) (v : Byte) (s : State) : (writeReg8 r v s).cpu.haltBugLatch = s.cpu.haltBugLatch := by cases r <;> rfl
@[simp] theorem writeReg8_cycles (r : Reg8) (v : Byte) (s : State) : (writeReg8 r v s).cpu.cycles = s.cpu.cycles := by cases r <;> rfl
@[simp] theorem writeReg8_irq (r : Reg8) (v : Byte) (s : State) : (writeReg8 r v s).irq = s.irq := by cases r <;> rfl
@[simp] theorem writeReg8_ppu (r : Reg8) (v : Byte) (s : State) : (writeReg8 r v s).ppu = s.ppu := by cases r <;> rfl
@[simp] theorem writeReg8_bus (r : Reg8) (v : Byte) (s : State) : (writeReg8 r v s).bus = s.bus := by cases r <;> rfl
@[simp] theorem writeReg8_env (r : Reg8) (v : Byte) (s : State) : (writeReg8 r v s).env = s.env := by cases r <;> rfl
@[simp] theorem writePair_a (p : Pair) (v : Word) (s : State) : (writePair p v s).cpu.a = s.cpu.a := by cases p <;> rfl
@[simp] theorem writePair_f (p : Pair) (v : Word) (s : State) : (writePair p v s).cpu.f = s.cpu.f := by cases p <;> rfl
@[simp] theorem writePair_pc (p : Pair) (v : Word) (s : State) : (writePair p v s).cpu.pc = s.cpu.pc := by cases p <;> rfl
@[simp] theorem writePair_ime (p : Pair) (v : Word) (s : State) : (writePair p v s).cpu.ime = s.cpu.ime := by cases p <;> rfl
@[simp] theorem writePair_eiDelay (p : Pair) (v : Word) (s : State) : (writePair p v s).cpu.eiDelay = s.cpu.eiDelay := by cases p <;> rfl
@[simp] theorem writePair_halted (p : Pair) (v : Word) (s : State) : (writePair p v s).cpu.halted = s.cpu.halted := by cases p <;> rfl
@[simp] theorem writePair_stopped (p : Pair) (v : Word) (s : State) : (writePair p v s).cpu.stopped = s.cpu.stopped := by cases p <;> rfl
@[simp] theorem writePair_haltBugLatch (p : Pair) (v : Word) (s : State) : (writePair p v s).cpu.haltBugLatch = s.cpu.haltBugLatch := by cases p <;> rfl
@[simp] theorem writePair_cycles (p : Pair) (v : Word) (s : State) : (writePair p v s).cpu.cycles = s.cpu.cycles := by cases p <;> rfl
@[simp] theorem writePair_irq (p : Pair) (v : Word) (s : State) : (writePair p v s).irq = s.irq := by cases p <;> rfl
@[simp] theorem writePair_ppu (p : Pair) (v : Word) (s : State) : (writePair p v s).ppu = s.ppu := by cases p <;> rfl
@[simp] theorem writePair_bus (p : Pair) (v : Word) (s : State) : (writePair p v s).bus = s.bus := by cases p <;> rfl
@[simp] theorem writePair_env (p : Pair) (v : Word) (s : State) : (writePair p v s).env = s.env := by cases p <;> rfl
@[simp] theorem writeStackPair_sp (p : StackPair) (v : Word) (s : State) : (writeStackPair p v s).cpu.sp = s.cpu.sp := by cases p <;> rfl
@[simp] theorem writeStackPair_pc (p : StackPair) (v : Word) (s : State) : (writeStackPair p v s).cpu.pc = s.cpu.pc := by cases p <;> rfl
@[simp] theorem writeStackPair_ime (p : StackPair) (v : Word) (s : State) : (writeStackPair p v s).cpu.ime = s.cpu.ime := by cases p <;> rfl
@[simp] theorem writeStackPair_eiDelay (p : StackPair) (v : Word) (s : State) : (writeStackPair p v s).cpu.eiDelay = s.cpu.eiDelay := by cases p <;> rfl
@[simp] theorem writeStackPair_halted (p : StackPair) (v : Word) (s : State) : (writeStackPair p v s).cpu.halted = s.cpu.halted := by cases p <;> rfl
@[simp] theorem writeStackPair_stopped (p : StackPair) (v : Word) (s : State) : (writeStackPair p v s).cpu.stopped = s.cpu.stopped := by cases p <;> rfl
@[simp] theorem writeStackPair_haltBugLatch (p : StackPair) (v : Word) (s : State) : (writeStackPair p v s).cpu.haltBugLatch = s.cpu.haltBugLatch := by cases p <;> rfl
@[simp] theorem writeStackPair_cycles (p : StackPair) (v : Word) (s : State) : (writeStackPair p v s).cpu.cycles = s.cpu.cycles := by cases p <;> rfl
@[simp] theorem writeStackPair_irq (p : StackPair) (v : Word) (s : State) : (writeStackPair p v s).irq = s.irq := by cases p <;> rfl
@[simp] theorem writeStackPair_ppu (p : StackPair) (v : Word) (s : State) : (writeStackPair p v s).ppu = s.ppu := by cases p <;> rfl
@[simp] theorem writeStackPair_bus (p : StackPair) (v : Word) (s : State) : (writeStackPair p v s).bus = s.bus := by cases p <;> rfl
@[simp] theorem writeStackPair_env (p : StackPair) (v : Word) (s : State) : (writeStackPair p v s).env = s.env := by cases p <;> rfl

/-- A register read after a register write. -/
@[simp] theorem readReg8_writeReg8 (r q : Reg8) (v : Byte) (s : State) :
    readReg8 q (writeReg8 r v s) = if q = r then v else readReg8 q s := by
  cases r <;> cases q <;> rfl

@[simp] theorem readReg8_writeFlags (r : Reg8) (z n h c : Option Bool) (s : State) :
    readReg8 r (writeFlags z n h c s) = readReg8 r s := by
  cases r <;> rfl

@[simp] theorem readReg8_setCycles (r : Reg8) (n : Nat) (s : State) :
    readReg8 r (setCycles n s) = readReg8 r s := by
  cases r <;> rfl

end Sys2Proof.Machine
end

