-- ==== Sys2Proof/Laws/Flags.lean ====
section
/-! SUPPORT. The flag register: F put together from its parts, its parts read back, and what a write of single flags
leaves. -/

namespace Sys2Proof.Machine

/-- A bit of F put together, by its place. -/
theorem getLsbD_flagByte (z n h c : Bool) (low : BitVec 4) (i : Nat) :
    (flagByte z n h c low).getLsbD i =
      if i < 4 then low.getLsbD i else if i = 4 then c else if i = 5 then h else if i = 6 then n
      else if i = 7 then z else false := by
  rcases Nat.lt_or_ge i 8 with hi | hi
  · have : i = 0 ∨ i = 1 ∨ i = 2 ∨ i = 3 ∨ i = 4 ∨ i = 5 ∨ i = 6 ∨ i = 7 := by omega
    rcases this with h' | h' | h' | h' | h' | h' | h' | h' <;> subst h' <;>
      simp only [flagByte, BitVec.getLsbD_append, BitVec.getLsbD_ofBool] <;> simp
  · have : ¬ i < 4 ∧ i ≠ 4 ∧ i ≠ 5 ∧ i ≠ 6 ∧ i ≠ 7 := by omega
    rw [BitVec.getLsbD_of_ge _ _ hi]
    simp [this]

/-- F is its flags and its low nibble. -/
theorem flagByte_of_byte (f : Byte) :
    flagByte (f.getLsbD 7) (f.getLsbD 6) (f.getLsbD 5) (f.getLsbD 4) (f.extractLsb' 0 4) = f := by
  apply BitVec.eq_of_getLsbD_eq
  intro i hi
  rw [getLsbD_flagByte]
  have : i = 0 ∨ i = 1 ∨ i = 2 ∨ i = 3 ∨ i = 4 ∨ i = 5 ∨ i = 6 ∨ i = 7 := by omega
  rcases this with h' | h' | h' | h' | h' | h' | h' | h' <;> subst h' <;>
    simp

/-- A write of single flags, as F put together: the flags not written and the low nibble are kept (R24, R25). -/
theorem writeFlags_eq (z n h c : Option Bool) (s : State) :
    writeFlags z n h c s = { s with
      cpu.f := flagByte (z.getD (flagZ s)) (n.getD (flagN s)) (h.getD (flagH s)) (c.getD (flagC s)) (flagLow s) } := by
  have hf : (writeFlags z n h c s).cpu.f =
      flagByte (z.getD (flagZ s)) (n.getD (flagN s)) (h.getD (flagH s)) (c.getD (flagC s)) (flagLow s) := by
    apply BitVec.eq_of_getLsbD_eq
    intro i hi
    rw [getLsbD_flagByte]
    have : i = 0 ∨ i = 1 ∨ i = 2 ∨ i = 3 ∨ i = 4 ∨ i = 5 ∨ i = 6 ∨ i = 7 := by omega
    rcases this with h' | h' | h' | h' | h' | h' | h' | h' <;> subst h' <;>
      simp (disch := decide) only [writeFlags, flagZ, flagN, flagH, flagC, flagLow, getLsbD_putFlag,
        BitVec.getLsbD_extractLsb'] <;> simp
  rw [← hf]
  rfl

/-- Z of a state whose F is put together. -/
theorem flagZ_of_f {s : State} {z n h c : Bool} {low : BitVec 4} (hf : s.cpu.f = flagByte z n h c low) : flagZ s = z := by
  rw [flagZ, hf, getLsbD_flagByte]
  rfl

/-- N of a state whose F is put together. -/
theorem flagN_of_f {s : State} {z n h c : Bool} {low : BitVec 4} (hf : s.cpu.f = flagByte z n h c low) : flagN s = n := by
  rw [flagN, hf, getLsbD_flagByte]
  rfl

/-- H of a state whose F is put together. -/
theorem flagH_of_f {s : State} {z n h c : Bool} {low : BitVec 4} (hf : s.cpu.f = flagByte z n h c low) : flagH s = h := by
  rw [flagH, hf, getLsbD_flagByte]
  rfl

/-- C of a state whose F is put together. -/
theorem flagC_of_f {s : State} {z n h c : Bool} {low : BitVec 4} (hf : s.cpu.f = flagByte z n h c low) : flagC s = c := by
  rw [flagC, hf, getLsbD_flagByte]
  rfl

/-- The low nibble of F put together. -/
@[simp] theorem extractLsb'_flagByte (z n h c : Bool) (low : BitVec 4) :
    (flagByte z n h c low).extractLsb' 0 4 = low := by
  apply BitVec.eq_of_getLsbD_eq
  intro i hi
  rw [BitVec.getLsbD_extractLsb', Nat.zero_add, getLsbD_flagByte]
  simp [hi]

@[simp] theorem writeFlags_flagZ (z n h c : Option Bool) (s : State) :
    flagZ (writeFlags z n h c s) = z.getD (flagZ s) := by
  rw [writeFlags_eq]
  exact flagZ_of_f rfl

@[simp] theorem writeFlags_flagN (z n h c : Option Bool) (s : State) :
    flagN (writeFlags z n h c s) = n.getD (flagN s) := by
  rw [writeFlags_eq]
  exact flagN_of_f rfl

@[simp] theorem writeFlags_flagH (z n h c : Option Bool) (s : State) :
    flagH (writeFlags z n h c s) = h.getD (flagH s) := by
  rw [writeFlags_eq]
  exact flagH_of_f rfl

@[simp] theorem writeFlags_flagC (z n h c : Option Bool) (s : State) :
    flagC (writeFlags z n h c s) = c.getD (flagC s) := by
  rw [writeFlags_eq]
  exact flagC_of_f rfl

@[simp] theorem writeFlags_flagLow (z n h c : Option Bool) (s : State) :
    flagLow (writeFlags z n h c s) = flagLow s := by
  rw [writeFlags_eq]
  exact extractLsb'_flagByte _ _ _ _ _

end Sys2Proof.Machine
end

