-- ==== Sys2Proof/Laws/Memory.lean ====
section
/-! SUPPORT. The laws of storage: a read after a write, and that a write keeps the canonical form. -/

namespace Sys2Proof.Machine

/-- Raising the bound: what is sorted above `lo` is sorted above anything lower, and on its own. -/
theorem Memory.sortedAbove_weaken {lo : Nat} {o : Option Nat} {m : List Host.Cell}
    (h : Memory.sortedAbove (some lo) m = true) (ho : ∀ x, o = some x → x ≤ lo) :
    Memory.sortedAbove o m = true := by
  cases m with
  | nil => cases o <;> rfl
  | cons x m =>
    obtain ⟨j, v⟩ := x
    simp only [Memory.sortedAbove, Bool.and_eq_true, decide_eq_true_eq] at h
    cases o with
    | none => simpa [Memory.sortedAbove] using h.2
    | some x =>
      have := ho x rfl
      simp only [Memory.sortedAbove, Bool.and_eq_true, decide_eq_true_eq]
      exact ⟨by omega, h.2⟩

/-- Below the first address nothing is listed. -/
theorem Memory.read_of_sortedAbove {lo k : Nat} {m : List Host.Cell}
    (h : Memory.sortedAbove (some lo) m = true) (hk : k ≤ lo) : Memory.read m k = Memory.unlisted := by
  induction m generalizing lo with
  | nil => rfl
  | cons x m ih =>
    obtain ⟨j, v⟩ := x
    simp only [Memory.sortedAbove, Bool.and_eq_true, decide_eq_true_eq] at h
    have hne : k ≠ j := by omega
    simp only [Memory.read, hne, if_false]
    exact ih h.2 (by omega)

/-- A read after a write, in memory sorted by address. -/
theorem Memory.read_write {o : Option Nat} {m : List Host.Cell} (k j : Nat) (v : Byte)
    (h : Memory.sortedAbove o m = true) :
    Memory.read (Memory.write m k v) j = if j = k then v else Memory.read m j := by
  induction m generalizing o with
  | nil => by_cases hv : v = Memory.unlisted <;> by_cases hj : j = k <;> simp [Memory.write, Memory.read, hv, hj]
  | cons x m ih =>
    obtain ⟨i, w⟩ := x
    have hs : Memory.sortedAbove (some i) m = true := by
      cases o with
      | none => simpa [Memory.sortedAbove] using h
      | some lo =>
        simp only [Memory.sortedAbove, Bool.and_eq_true] at h
        exact h.2
    have hlow : ∀ n, n ≤ i → Memory.read m n = Memory.unlisted := fun n hn => Memory.read_of_sortedAbove hs hn
    simp only [Memory.write]
    by_cases h1 : k < i
    · simp only [h1, if_true]
      by_cases hv : v = Memory.unlisted
      · simp only [hv, if_true]
        by_cases hj : j = k
        · have : ¬(k = i) := by omega
          simp [Memory.read, hj, this, hlow k (by omega)]
        · simp [hj]
      · simp only [hv, if_false, Memory.read]
    · simp only [h1, if_false]
      by_cases h2 : k = i
      · simp only [h2, if_true]
        by_cases hv : v = Memory.unlisted
        · simp only [hv, if_true, Memory.read]
          by_cases hj : j = i
          · simp [hj, hlow i (by omega)]
          · simp [hj]
        · simp only [hv, if_false, Memory.read]
          by_cases hj : j = i <;> simp [hj]
      · simp only [h2, if_false, Memory.read]
        by_cases hj : j = i
        · have : ¬(i = k) := by omega
          simp [hj, this]
        · simp [hj, ih hs]

/-- A write keeps the order of addresses. -/
theorem Memory.sortedAbove_write {o : Option Nat} {m : List Host.Cell} (k : Nat) (v : Byte)
    (h : Memory.sortedAbove o m = true) (hk : ∀ x, o = some x → x < k) :
    Memory.sortedAbove o (Memory.write m k v) = true := by
  induction m generalizing o with
  | nil =>
    by_cases hv : v = Memory.unlisted
    · simp [Memory.write, hv, Memory.sortedAbove]
    · cases o with
      | none => simp [Memory.write, hv, Memory.sortedAbove]
      | some x => simp [Memory.write, hv, Memory.sortedAbove, hk x rfl]
  | cons x m ih =>
    obtain ⟨i, w⟩ := x
    have hs : Memory.sortedAbove (some i) m = true ∧ ∀ x, o = some x → x < i := by
      cases o with
      | none => exact ⟨by simpa [Memory.sortedAbove] using h, by simp⟩
      | some lo =>
        simp only [Memory.sortedAbove, Bool.and_eq_true, decide_eq_true_eq] at h
        exact ⟨h.2, by simpa using h.1⟩
    have cons : ∀ (n : Nat) (u : Byte) (l : List Host.Cell), (∀ x, o = some x → x < n) →
        Memory.sortedAbove (some n) l = true → Memory.sortedAbove o ((n, u) :: l) = true := by
      intro n u l hn hl
      cases o with
      | none => simpa [Memory.sortedAbove] using hl
      | some lo => simp [Memory.sortedAbove, hn lo rfl, hl]
    simp only [Memory.write]
    by_cases h1 : k < i
    · simp only [h1, if_true]
      by_cases hv : v = Memory.unlisted
      · simpa [hv] using h
      · simp only [hv, if_false]
        exact cons k v _ hk (by simp [Memory.sortedAbove, h1, hs.1])
    · simp only [h1, if_false]
      by_cases h2 : k = i
      · simp only [h2, if_true]
        by_cases hv : v = Memory.unlisted
        · simp only [hv, if_true]
          exact Memory.sortedAbove_weaken hs.1 (fun x hx => Nat.le_of_lt (hs.2 x hx))
        · simp only [hv, if_false]
          exact cons i v m hs.2 hs.1
      · simp only [h2, if_false]
        exact cons i w _ hs.2 (ih hs.1 (by simp; omega))

/-- Every cell of a memory after a write is the written cell or one of the cells before. -/
theorem Memory.mem_write {m : List Host.Cell} {k : Nat} {v : Byte} {x : Host.Cell}
    (h : x ∈ Memory.write m k v) : (x = (k, v) ∧ v ≠ Memory.unlisted) ∨ x ∈ m := by
  induction m with
  | nil =>
    by_cases hv : v = Memory.unlisted
    · simp [Memory.write, hv] at h
    · simp only [Memory.write, hv, if_false, List.mem_singleton] at h
      exact .inl ⟨h, hv⟩
  | cons y m ih =>
    obtain ⟨i, w⟩ := y
    simp only [Memory.write] at h
    by_cases hv : v = Memory.unlisted <;> by_cases h1 : k < i <;> by_cases h2 : k = i <;>
      simp only [hv, h1, h2, if_true, if_false, lt_self_iff_false, List.mem_cons] at h ⊢ <;> grind

/-- A write at a storage address keeps the canonical form. -/
theorem Memory.wf_write {m : List Host.Cell} (k : Nat) (v : Byte) (h : Memory.wf m = true)
    (hk : Memory.isStorage k = true) : Memory.wf (Memory.write m k v) = true := by
  simp only [Memory.wf, Bool.and_eq_true, List.all_eq_true, decide_eq_true_eq] at h ⊢
  refine ⟨Memory.sortedAbove_write k v h.1 (by simp), fun x hx => ?_⟩
  obtain ⟨rfl, hv⟩ | hm := Memory.mem_write hx
  · exact ⟨hk, hv⟩
  · exact h.2 x hm

/-- What a promise answers: its byte at its address, and elsewhere what was promised before. -/
theorem Memory.lookup_promise_self (m : List Host.Cell) (k : Nat) (v : Byte) :
    Memory.lookup (Memory.promise m k v) k = some v := by
  induction m with
  | nil => simp [Memory.promise, Memory.lookup]
  | cons x m ih =>
    obtain ⟨i, w⟩ := x
    by_cases h1 : k < i
    · simp [Memory.promise, h1, Memory.lookup]
    · by_cases h2 : k = i
      · simp [Memory.promise, h2, Memory.lookup]
      · simp [Memory.promise, h1, h2, Memory.lookup, ih]

theorem Memory.lookup_promise_other (m : List Host.Cell) (k j : Nat) (v : Byte) (hj : j ≠ k) :
    Memory.lookup (Memory.promise m k v) j = Memory.lookup m j := by
  induction m with
  | nil => simp [Memory.promise, Memory.lookup, hj]
  | cons x m ih =>
    obtain ⟨i, w⟩ := x
    by_cases h1 : k < i
    · simp [Memory.promise, h1, Memory.lookup, hj]
    · by_cases h2 : k = i
      · have : j ≠ i := by omega
        simp [Memory.promise, h2, Memory.lookup, this]
      · simp [Memory.promise, h1, h2, Memory.lookup, ih]

end Sys2Proof.Machine
end

