-- ==== Sys2Proof/Laws/Bus.lean ====
section
/-! SUPPORT. The bus: everything a read, a write, a push and a pop can change. -/

namespace Sys2Proof.Machine

/-! ## Reads -/

/-- All that a read can change is the count of draws. -/
theorem memRead_snd (a : Word) (s : State) :
    (memRead a s).2 = { s with bus.draws := s.bus.draws + (if byteAt a s = none then 1 else 0) } := by
  unfold memRead
  cases h : byteAt a s <;> simp

@[simp] theorem memRead_cpu (a : Word) (s : State) : (memRead a s).2.cpu = s.cpu := by rw [memRead_snd]
@[simp] theorem memRead_irq (a : Word) (s : State) : (memRead a s).2.irq = s.irq := by rw [memRead_snd]
@[simp] theorem memRead_ppu (a : Word) (s : State) : (memRead a s).2.ppu = s.ppu := by rw [memRead_snd]
@[simp] theorem memRead_env (a : Word) (s : State) : (memRead a s).2.env = s.env := by rw [memRead_snd]
@[simp] theorem memRead_mem (a : Word) (s : State) : (memRead a s).2.bus.mem = s.bus.mem := by rw [memRead_snd]
@[simp] theorem memRead_ext (a : Word) (s : State) : (memRead a s).2.bus.ext = s.bus.ext := by rw [memRead_snd]
@[simp] theorem memRead_extWrites (a : Word) (s : State) :
    (memRead a s).2.bus.extWrites = s.bus.extWrites := by rw [memRead_snd]

/-- A read of a settled byte gives it and changes nothing. -/
theorem memRead_of_byteAt {a : Word} {s : State} {v : Byte} (h : byteAt a s = some v) : memRead a s = (v, s) := by
  simp [memRead, h]

/-- What `byteAt` looks at: storage, the promises, IF, IE and the PPU's registers. -/
theorem byteAt_congr {s t : State} (hm : t.bus.mem = s.bus.mem) (he : t.bus.ext = s.bus.ext) (hi : t.irq = s.irq)
    (hp : t.ppu = s.ppu) (a : Word) : byteAt a t = byteAt a s := by
  unfold byteAt
  cases route a with
  | storage k => simp [hm]
  | reg r => cases r <;> simp [readIoReg, hi, hp]
  | ext who => simp [he]

/-- A read leaves every byte as it was. -/
@[simp] theorem byteAt_memRead (a b : Word) (s : State) : byteAt b (memRead a s).2 = byteAt b s :=
  byteAt_congr (by simp) (by simp) (by simp) (by simp) b

/-! ## The address map -/

/-- Where the map sends an access to storage is a storage address (R47, R61). -/
theorem isStorage_of_route {a : Word} {k : Nat} (h : route a = .storage k) : Memory.isStorage k = true := by
  have ha := a.isLt
  simp only [route] at h
  simp only [Memory.isStorage, Bool.or_eq_true, decide_eq_true_eq]
  generalize ioReg a.toNat = o at h
  generalize a.toNat = n at h ha
  split at h
  · cases h
  split at h
  · have := Route.storage.inj h; omega
  split at h
  · cases h
  split at h
  · have := Route.storage.inj h; omega
  split at h
  · have := Route.storage.inj h; omega
  split at h
  · have := Route.storage.inj h; omega
  split at h
  · cases h
  split at h
  · have := Route.storage.inj h; omega
  · cases o <;> cases h

/-! ## Writes -/

@[simp] theorem memWrite_cpu (a : Word) (v : Byte) (s : State) : (memWrite a v s).cpu = s.cpu := by
  unfold memWrite
  cases route a with
  | storage k => rfl
  | reg r => cases r <;> rfl
  | ext who => rfl

@[simp] theorem memWrite_env (a : Word) (v : Byte) (s : State) : (memWrite a v s).env = s.env := by
  unfold memWrite
  cases route a with
  | storage k => rfl
  | reg r => cases r <;> rfl
  | ext who => rfl

@[simp] theorem memWrite_ext (a : Word) (v : Byte) (s : State) : (memWrite a v s).bus.ext = s.bus.ext := by
  unfold memWrite
  cases route a with
  | storage k => rfl
  | reg r => cases r <;> rfl
  | ext who => rfl

@[simp] theorem memWrite_draws (a : Word) (v : Byte) (s : State) : (memWrite a v s).bus.draws = s.bus.draws := by
  unfold memWrite
  cases route a with
  | storage k => rfl
  | reg r => cases r <;> rfl
  | ext who => rfl

/-- The part of the PPU that no bus access reaches (R36, R40). -/
structure Ppu.SameTiming (p q : Ppu) : Prop where
  mode : q.mode = p.mode
  ly : q.ly = p.ly
  dot : q.dot = p.dot
  windowLine : q.windowLine = p.windowLine
  lcdRunning : q.lcdRunning = p.lcdRunning
  offDots : q.offDots = p.offDots
  framebuffer : q.framebuffer = p.framebuffer
  frameEvent : q.frameEvent = p.frameEvent

theorem Ppu.SameTiming.refl (p : Ppu) : Ppu.SameTiming p p := ⟨rfl, rfl, rfl, rfl, rfl, rfl, rfl, rfl⟩

theorem Ppu.SameTiming.trans {p q r : Ppu} (h : Ppu.SameTiming p q) (k : Ppu.SameTiming q r) : Ppu.SameTiming p r :=
  ⟨k.mode.trans h.mode, k.ly.trans h.ly, k.dot.trans h.dot, k.windowLine.trans h.windowLine,
    k.lcdRunning.trans h.lcdRunning, k.offDots.trans h.offDots, k.framebuffer.trans h.framebuffer,
    k.frameEvent.trans h.frameEvent⟩

/-- A write changes a PPU register or nothing of the PPU. -/
theorem memWrite_timing (a : Word) (v : Byte) (s : State) : Ppu.SameTiming s.ppu (memWrite a v s).ppu := by
  unfold memWrite
  cases route a with
  | storage k => exact .refl _
  | reg r => cases r <;> exact ⟨rfl, rfl, rfl, rfl, rfl, rfl, rfl, rfl⟩
  | ext who => exact .refl _

/-- A write keeps the canonical form of storage. -/
theorem memWrite_wf {a : Word} {v : Byte} {s : State} (h : BusInv s) : BusInv (memWrite a v s) := by
  unfold memWrite
  cases hr : route a with
  | storage k => exact Memory.wf_write k v h (isStorage_of_route hr)
  | reg r => cases r <;> exact h
  | ext who => exact h

/-- A read after a write to storage. -/
theorem byteAt_memWrite_storage {a : Word} {k : Nat} {v : Byte} {s : State} (h : BusInv s)
    (hr : route a = .storage k) (b : Word) :
    byteAt b (memWrite a v s) = if route b = .storage k then some v else byteAt b s := by
  have hs : Memory.sortedAbove none s.bus.mem = true := by
    have := h
    simp only [BusInv, Memory.wf, Bool.and_eq_true] at this
    exact this.1
  simp only [memWrite, hr, byteAt]
  cases hb : route b with
  | storage j =>
    by_cases hj : j = k
    · simp [hj, Memory.read_write k k v hs]
    · simp [hj, Memory.read_write k j v hs]
  | reg r => simp [readIoReg]
  | ext who => simp

/-! ## The stack -/

@[simp] theorem push16_cpu (v : Word) (s : State) : (push16 v s).cpu = { s.cpu with sp := s.cpu.sp - 2 } := by
  have : s.cpu.sp - 1#16 - 1#16 = s.cpu.sp - 2#16 := by bv_omega
  simp [push16, setSp, this]

@[simp] theorem push16_env (v : Word) (s : State) : (push16 v s).env = s.env := by simp [push16]

@[simp] theorem push16_ext (v : Word) (s : State) : (push16 v s).bus.ext = s.bus.ext := by simp [push16]

theorem push16_timing (v : Word) (s : State) : Ppu.SameTiming s.ppu (push16 v s).ppu := by
  have h1 := memWrite_timing (s.cpu.sp - 1) (hiByte v) (setSp (s.cpu.sp - 1) s)
  have h2 := memWrite_timing (s.cpu.sp - 1 - 1) (loByte v)
    (setSp (s.cpu.sp - 1 - 1) (memWrite (s.cpu.sp - 1) (hiByte v) (setSp (s.cpu.sp - 1) s)))
  simpa [push16] using h1.trans h2

theorem push16_wf {v : Word} {s : State} (h : BusInv s) : BusInv (push16 v s) :=
  memWrite_wf (memWrite_wf h)

@[simp] theorem pop16_cpu (s : State) : (pop16 s).2.cpu = { s.cpu with sp := s.cpu.sp + 2 } := by
  have : s.cpu.sp + 1#16 + 1#16 = s.cpu.sp + 2#16 := by bv_omega
  simp [pop16, setSp, this]

@[simp] theorem pop16_irq (s : State) : (pop16 s).2.irq = s.irq := by simp [pop16]
@[simp] theorem pop16_ppu (s : State) : (pop16 s).2.ppu = s.ppu := by simp [pop16]
@[simp] theorem pop16_env (s : State) : (pop16 s).2.env = s.env := by simp [pop16]
@[simp] theorem pop16_mem (s : State) : (pop16 s).2.bus.mem = s.bus.mem := by simp [pop16]
@[simp] theorem pop16_ext (s : State) : (pop16 s).2.bus.ext = s.bus.ext := by simp [pop16]

/-! ## Taking an interrupt -/

/-- What a dispatch leaves of the CPU: PC is a vector, SP two lower; IME, the pending EI and `halted` are cleared. -/
theorem takeInterrupt_cpu (s : State) :
    (takeInterrupt s).cpu = { s.cpu with
      pc := vector (lowestSet (pendingAndEnabled s)), sp := s.cpu.sp - 2
      ime := false, eiDelay := 0, halted := false } := by
  simp [takeInterrupt, setPc]

theorem takeInterrupt_timing (s : State) : Ppu.SameTiming s.ppu (takeInterrupt s).ppu := by
  simpa [takeInterrupt] using push16_timing s.cpu.pc
    (ack (lowestSet (pendingAndEnabled s)) { s with cpu.ime := false, cpu.eiDelay := 0, cpu.halted := false })

theorem takeInterrupt_wf {s : State} (h : BusInv s) : BusInv (takeInterrupt s) := by
  unfold takeInterrupt BusInv
  simp only [setPc_bus]
  apply push16_wf
  exact h

@[simp] theorem takeInterrupt_env (s : State) : (takeInterrupt s).env = s.env := by simp [takeInterrupt]

@[simp] theorem takeInterrupt_ext (s : State) : (takeInterrupt s).bus.ext = s.bus.ext := by simp [takeInterrupt]

end Sys2Proof.Machine
end

