-- ==== Sys2Proof/Laws/Driver.lean ====
section
/-! SUPPORT. What the driver has after a faulting step. -/

namespace Sys2Proof.Machine

/-- After a fault only the fault log, the schedule of moves that `takeMoves` shortens, and the count of draws differ from the
state with the host's moves made. -/
theorem afterFault_eq (r : Fault) (s : State) :
    afterFault r s = { takeMoves s with
      bus.draws := (takeMoves s).bus.draws + (if byteAt (takeMoves s).cpu.pc (takeMoves s) = none then 1 else 0)
      env.faultLog := (takeMoves s).env.faultLog ++ [r] } := by
  simp only [afterFault, memRead_snd]

/-- A settled opcode byte: nothing but the log. -/
theorem afterFault_settled (r : Fault) (s : State) {v : Byte}
    (h : byteAt (takeMoves s).cpu.pc (takeMoves s) = some v) :
    afterFault r s = { takeMoves s with env.faultLog := (takeMoves s).env.faultLog ++ [r] } := by
  simp [afterFault, memRead, h]

@[simp] theorem afterFault_cpu (r : Fault) (s : State) : (afterFault r s).cpu = (takeMoves s).cpu := by rw [afterFault_eq]

@[simp] theorem afterFault_irq (r : Fault) (s : State) : (afterFault r s).irq = (takeMoves s).irq := by rw [afterFault_eq]

@[simp] theorem afterFault_ppu (r : Fault) (s : State) : (afterFault r s).ppu = (takeMoves s).ppu := by rw [afterFault_eq]

@[simp] theorem afterFault_mem (r : Fault) (s : State) : (afterFault r s).bus.mem = (takeMoves s).bus.mem := by
  rw [afterFault_eq]

/-- A fault whose opcode was an open answer uses up that draw. -/
theorem afterFault_draws_open (r : Fault) (s : State) (h : byteAt (takeMoves s).cpu.pc (takeMoves s) = none) :
    (afterFault r s).bus.draws = (takeMoves s).bus.draws + 1 := by
  rw [afterFault_eq]; simp [h]

end Sys2Proof.Machine
end

