-- ==== Sys2Proof/Laws/Keeps.lean ====
section
/-! SUPPORT. What every instruction but HALT and STOP keeps, said once, and that each shared operation keeps it. -/

namespace Sys2Proof.Machine

/-- From `s` to `t`: the parameters, the promises and the PPU's timing are the same, storage stays canonical, the low
nibble of F stays 0, the run state is the same and the EI delay stays in range. -/
structure Keeps (s t : State) : Prop where
  env : t.env = s.env
  ext : t.bus.ext = s.bus.ext
  timing : Ppu.SameTiming s.ppu t.ppu
  wf : BusInv s → BusInv t
  low : flagLow s = 0 → flagLow t = 0
  halted : t.cpu.halted = s.cpu.halted
  stopped : t.cpu.stopped = s.cpu.stopped
  latch : t.cpu.haltBugLatch = s.cpu.haltBugLatch
  delay : s.cpu.eiDelay ≤ 2 → t.cpu.eiDelay ≤ 2

namespace Keeps

theorem refl (s : State) : Keeps s s := ⟨rfl, rfl, .refl _, id, id, rfl, rfl, rfl, id⟩

theorem trans {s t u : State} (h : Keeps s t) (k : Keeps t u) : Keeps s u :=
  ⟨k.env.trans h.env, k.ext.trans h.ext, h.timing.trans k.timing, k.wf ∘ h.wf, k.low ∘ h.low,
    k.halted.trans h.halted, k.stopped.trans h.stopped, k.latch.trans h.latch, k.delay ∘ h.delay⟩

/-- A change of the CPU alone keeps what the CPU fields say it keeps. -/
theorem ofCpu {s : State} {c : Cpu} (hl : flagLow s = 0 → c.f.extractLsb' 0 4 = 0) (hh : c.halted = s.cpu.halted)
    (hs : c.stopped = s.cpu.stopped) (hb : c.haltBugLatch = s.cpu.haltBugLatch)
    (hd : s.cpu.eiDelay ≤ 2 → c.eiDelay ≤ 2) : Keeps s { s with cpu := c } :=
  ⟨rfl, rfl, .refl _, id, hl, hh, hs, hb, hd⟩

theorem setPc (v : Word) (s : State) : Keeps s (Machine.setPc v s) := ofCpu id rfl rfl rfl id

theorem setSp (v : Word) (s : State) : Keeps s (Machine.setSp v s) := ofCpu id rfl rfl rfl id

theorem setCycles (n : Nat) (s : State) : Keeps s (Machine.setCycles n s) := ofCpu id rfl rfl rfl id

theorem writeFlags (z n h c : Option Bool) (s : State) : Keeps s (Machine.writeFlags z n h c s) :=
  ofCpu (fun hl => (writeFlags_flagLow z n h c s).trans hl) rfl rfl rfl id

theorem writeReg8 (r : Reg8) (v : Byte) (s : State) : Keeps s (Machine.writeReg8 r v s) := by
  cases r <;> exact ofCpu id rfl rfl rfl id

theorem writePair (p : Pair) (v : Word) (s : State) : Keeps s (Machine.writePair p v s) := by
  cases p <;> exact ofCpu id rfl rfl rfl id

/-- The low nibble of the F that POP AF writes. -/
theorem low_of_popped (x : BitVec 4) : (x ++ 0#4).extractLsb' 0 4 = (0 : BitVec 4) := by
  apply BitVec.eq_of_getLsbD_eq
  intro i hi
  rw [BitVec.getLsbD_extractLsb', BitVec.getLsbD_append]
  simp [hi]

theorem writeStackPair (p : StackPair) (v : Word) (s : State) : Keeps s (Machine.writeStackPair p v s) := by
  cases p
  · exact ofCpu id rfl rfl rfl id
  · exact ofCpu id rfl rfl rfl id
  · exact ofCpu id rfl rfl rfl id
  · exact ofCpu (fun _ => low_of_popped _) rfl rfl rfl id

theorem memRead (a : Word) (s : State) : Keeps s (Machine.memRead a s).2 := by
  rw [memRead_snd]
  exact ⟨rfl, rfl, .refl _, id, id, rfl, rfl, rfl, id⟩

theorem memWrite (a : Word) (v : Byte) (s : State) : Keeps s (Machine.memWrite a v s) :=
  ⟨by simp, by simp, memWrite_timing a v s, memWrite_wf, by simp [flagLow], by simp, by simp, by simp, by simp⟩

theorem readSrc8 (x : Src8) (s : State) : Keeps s (Machine.readSrc8 x s).2 := by
  cases x
  · exact .refl _
  · exact memRead _ _
  · exact .refl _

theorem readPlace8 (x : Place8) (s : State) : Keeps s (Machine.readPlace8 x s).2 := by
  cases x
  · exact .refl _
  · exact memRead _ _

theorem writePlace8 (x : Place8) (v : Byte) (s : State) : Keeps s (Machine.writePlace8 x v s) := by
  cases x
  · exact writeReg8 _ _ _
  · exact memWrite _ _ _

theorem push16 (v : Word) (s : State) : Keeps s (Machine.push16 v s) :=
  (((setSp _ _).trans (memWrite _ _ _)).trans (setSp _ _)).trans (memWrite _ _ _)

theorem pop16 (s : State) : Keeps s (Machine.pop16 s).2 :=
  (((memRead _ _).trans (setSp _ _)).trans (memRead _ _)).trans (setSp _ _)

/-! ## The shared operations -/

theorem opLd8 (dst : Place8) (src : Src8) (n : Nat) (s : State) : Keeps s (Machine.opLd8 dst src n s) :=
  ((readSrc8 _ _).trans (writePlace8 _ _ _)).trans (setCycles _ _)

theorem opLoadA (a : Word) (n : Nat) (s : State) : Keeps s (Machine.opLoadA a n s) :=
  ((memRead _ _).trans (writeReg8 .a _ _)).trans (setCycles _ _)

theorem opStoreA (a : Word) (n : Nat) (s : State) : Keeps s (Machine.opStoreA a n s) :=
  (memWrite _ _ _).trans (setCycles _ _)

theorem bumpHl (d : Word) (s : State) : Keeps s (Machine.bumpHl d s) := writePair .hl _ _

theorem opLdPair (p : Pair) (d : Word) (s : State) : Keeps s (Machine.opLdPair p d s) :=
  (writePair _ _ _).trans (setCycles _ _)

theorem opStoreSp (a : Word) (s : State) : Keeps s (Machine.opStoreSp a s) :=
  ((memWrite _ _ _).trans (memWrite _ _ _)).trans (setCycles _ _)

theorem opLdSpHl (s : State) : Keeps s (Machine.opLdSpHl s) := (setSp _ _).trans (setCycles _ _)

theorem opPush (p : StackPair) (s : State) : Keeps s (Machine.opPush p s) := (push16 _ _).trans (setCycles _ _)

theorem opPop (p : StackPair) (s : State) : Keeps s (Machine.opPop p s) :=
  ((pop16 _).trans (writeStackPair _ _ _)).trans (setCycles _ _)

theorem opAlu (op : AluOp) (src : Src8) (s : State) : Keeps s (Machine.opAlu op src s) := by
  cases op
  case cp => exact ((readSrc8 src s).trans (writeFlags _ _ _ _ _)).trans (setCycles _ _)
  all_goals exact (((readSrc8 src s).trans (writeReg8 .a _ _)).trans (writeFlags _ _ _ _ _)).trans (setCycles _ _)

theorem opInc (x : Place8) (s : State) : Keeps s (Machine.opInc x s) :=
  (((readPlace8 _ _).trans (writePlace8 _ _ _)).trans (writeFlags _ _ _ _ _)).trans (setCycles _ _)

theorem opDec (x : Place8) (s : State) : Keeps s (Machine.opDec x s) :=
  (((readPlace8 _ _).trans (writePlace8 _ _ _)).trans (writeFlags _ _ _ _ _)).trans (setCycles _ _)

theorem opDaa (s : State) : Keeps s (Machine.opDaa s) :=
  ((writeReg8 .a _ _).trans (writeFlags _ _ _ _ _)).trans (setCycles _ _)

theorem opCpl (s : State) : Keeps s (Machine.opCpl s) :=
  ((writeReg8 .a _ _).trans (writeFlags _ _ _ _ _)).trans (setCycles _ _)

theorem opScf (s : State) : Keeps s (Machine.opScf s) := (writeFlags _ _ _ _ _).trans (setCycles _ _)

theorem opCcf (s : State) : Keeps s (Machine.opCcf s) := (writeFlags _ _ _ _ _).trans (setCycles _ _)

theorem opIncPair (p : Pair) (s : State) : Keeps s (Machine.opIncPair p s) :=
  (writePair _ _ _).trans (setCycles _ _)

theorem opDecPair (p : Pair) (s : State) : Keeps s (Machine.opDecPair p s) :=
  (writePair _ _ _).trans (setCycles _ _)

theorem opAddHl (p : Pair) (s : State) : Keeps s (Machine.opAddHl p s) :=
  ((writePair .hl _ _).trans (writeFlags _ _ _ _ _)).trans (setCycles _ _)

theorem opAddSp (e : Byte) (s : State) : Keeps s (Machine.opAddSp e s) :=
  ((setSp _ _).trans (writeFlags _ _ _ _ _)).trans (setCycles _ _)

theorem opLdHlSp (e : Byte) (s : State) : Keeps s (Machine.opLdHlSp e s) :=
  ((writePair .hl _ _).trans (writeFlags _ _ _ _ _)).trans (setCycles _ _)

theorem opRotateA (op : RotOp) (s : State) : Keeps s (Machine.opRotateA op s) :=
  ((writeReg8 .a _ _).trans (writeFlags _ _ _ _ _)).trans (setCycles _ _)

theorem opRotate (op : RotOp) (x : Place8) (s : State) : Keeps s (Machine.opRotate op x s) :=
  (((readPlace8 _ _).trans (writePlace8 _ _ _)).trans (writeFlags _ _ _ _ _)).trans (setCycles _ _)

theorem opBit (b : Nat) (x : Place8) (s : State) : Keeps s (Machine.opBit b x s) :=
  ((readPlace8 _ _).trans (writeFlags _ _ _ _ _)).trans (setCycles _ _)

theorem opRes (b : Nat) (x : Place8) (s : State) : Keeps s (Machine.opRes b x s) :=
  ((readPlace8 _ _).trans (writePlace8 _ _ _)).trans (setCycles _ _)

theorem opSet (b : Nat) (x : Place8) (s : State) : Keeps s (Machine.opSet b x s) :=
  ((readPlace8 _ _).trans (writePlace8 _ _ _)).trans (setCycles _ _)

theorem opCbPage (cb : Byte) (s : State) : Keeps s (Machine.opCbPage cb s) := by
  unfold Machine.opCbPage
  dsimp only
  split
  · exact opRotate _ _ _
  · exact opBit _ _ _
  · exact opRes _ _ _
  · exact opSet _ _ _

theorem opJp (a : Word) (s : State) : Keeps s (Machine.opJp a s) := (setPc _ _).trans (setCycles _ _)

theorem opJpCc (cc : Cond) (a : Word) (s : State) : Keeps s (Machine.opJpCc cc a s) := by
  unfold Machine.opJpCc
  split
  · exact (setPc _ _).trans (setCycles _ _)
  · exact setCycles _ _

theorem opJpHl (s : State) : Keeps s (Machine.opJpHl s) := (setPc _ _).trans (setCycles _ _)

theorem opJr (e : Byte) (s : State) : Keeps s (Machine.opJr e s) := (setPc _ _).trans (setCycles _ _)

theorem opJrCc (cc : Cond) (e : Byte) (s : State) : Keeps s (Machine.opJrCc cc e s) := by
  unfold Machine.opJrCc
  split
  · exact (setPc _ _).trans (setCycles _ _)
  · exact setCycles _ _

theorem callTo (a : Word) (s : State) : Keeps s (Machine.callTo a s) := (push16 _ _).trans (setPc _ _)

theorem opCall (a : Word) (s : State) : Keeps s (Machine.opCall a s) := (callTo _ _).trans (setCycles _ _)

theorem opCallCc (cc : Cond) (a : Word) (s : State) : Keeps s (Machine.opCallCc cc a s) := by
  unfold Machine.opCallCc
  split
  · exact (callTo _ _).trans (setCycles _ _)
  · exact setCycles _ _

theorem returnTo (s : State) : Keeps s (Machine.returnTo s) := (pop16 _).trans (setPc _ _)

theorem opRet (s : State) : Keeps s (Machine.opRet s) := (returnTo _).trans (setCycles _ _)

theorem opRetCc (cc : Cond) (s : State) : Keeps s (Machine.opRetCc cc s) := by
  unfold Machine.opRetCc
  split
  · exact (returnTo _).trans (setCycles _ _)
  · exact setCycles _ _

theorem opReti (s : State) : Keeps s (Machine.opReti s) := by
  refine trans (trans (pop16 s) ?_) (setCycles _ _)
  exact ofCpu id rfl rfl rfl fun _ => Nat.zero_le 2

theorem opRst (y : Nat) (s : State) : Keeps s (Machine.opRst y s) := (callTo _ _).trans (setCycles _ _)

theorem opNop (s : State) : Keeps s (Machine.opNop s) := setCycles _ _

theorem opDi (s : State) : Keeps s (Machine.opDi s) := by
  refine trans ?_ (setCycles _ _)
  exact ofCpu id rfl rfl rfl fun _ => Nat.zero_le 2

theorem opEi (s : State) : Keeps s (Machine.opEi s) := by
  unfold Machine.opEi
  split
  · refine trans ?_ (setCycles _ _)
    exact ofCpu id rfl rfl rfl fun _ => Nat.le_refl 2
  · exact setCycles _ _

end Keeps

end Sys2Proof.Machine
end

