-- ==== Sys2Proof/Laws/Exec.lean ====
section
/-! SUPPORT. What any instruction can do, said once over `exec`: it completes and keeps what `Keeps` says, or it is HALT
or STOP, or it is undefined and faults. -/

namespace Sys2Proof.Machine

/-- The three ways an instruction ends. -/
theorem exec_cases (i : Instr) (s : State) :
    (∃ t, exec i s = .next t ∧ Keeps s t) ∨ exec i s = .next (opHalt s) ∧ i = .halt ∨
      (∃ pad, exec i s = .next (opStop s) ∧ i = .stop pad) ∨
      ∃ op, exec i s = .fault (.invalidOpcode s.cpu.pc op) ∧ isIllegal op = true := by
  cases i
  case halt => exact .inr (.inl ⟨rfl, rfl⟩)
  case stop pad => exact .inr (.inr (.inl ⟨pad, rfl, rfl⟩))
  all_goals first
    | refine .inl ⟨_, rfl, ?_⟩
      with_reducible first
        | exact .opRotate _ _ s
        | exact .opBit _ _ s
        | exact .opRes _ _ s
        | exact .opSet _ _ s
        | exact .opLd8 _ _ _ s
        | exact .opAlu _ _ s
        | exact .opInc _ s
        | exact .opDec _ s
        | exact .opPush _ s
        | exact .opPop _ s
        | exact .opRst _ s
        | exact .opJpCc _ _ s
        | exact .opJrCc _ _ s
        | exact .opCallCc _ _ s
        | exact .opRetCc _ s
        | exact .opIncPair _ s
        | exact .opDecPair _ s
        | exact .opAddHl _ s
        | exact .opLdPair _ _ s
        | exact .opLoadA _ _ s
        | exact .opStoreA _ _ s
        | exact .opRotateA _ s
        | exact .opStoreSp _ s
        | exact .opLdSpHl s
        | exact .opDaa s
        | exact .opCpl s
        | exact .opScf s
        | exact .opCcf s
        | exact .opAddSp _ s
        | exact .opLdHlSp _ s
        | exact .opCbPage _ s
        | exact .opJp _ s
        | exact .opJpHl s
        | exact .opJr _ s
        | exact .opCall _ s
        | exact .opRet s
        | exact .opReti s
        | exact .opNop s
        | exact .opDi s
        | exact .opEi s
        | (refine Keeps.trans ?_ (Keeps.bumpHl _ _)
           first
             | exact .opLoadA _ _ s
             | exact .opStoreA _ _ s)
    | exact .inr (.inr (.inr ⟨_, rfl, by decide⟩))

end Sys2Proof.Machine
end

