-- ==== Sys2Proof/Laws/Ppu.lean ====
section
/-! SUPPORT. The PPU: what a tick can change at all, and what a tick is at each kind of dot. -/

namespace Sys2Proof.Machine

/-! ## What the PPU's functions can change -/

/-- From `s` to `t` only the PPU's own state and bits 0 and 1 of IF changed, and those were only set. -/
structure PpuOnly (s t : State) : Prop where
  cpu : t.cpu = s.cpu
  bus : t.bus = s.bus
  env : t.env = s.env
  ie : t.irq.ie = s.irq.ie
  high : t.irq.ifr.extractLsb' 2 3 = s.irq.ifr.extractLsb' 2 3
  kept : t.irq.ifr &&& s.irq.ifr = s.irq.ifr
  lcdc : t.ppu.lcdc = s.ppu.lcdc
  statEn : t.ppu.statEn = s.ppu.statEn
  scy : t.ppu.scy = s.ppu.scy
  scx : t.ppu.scx = s.ppu.scx
  lyc : t.ppu.lyc = s.ppu.lyc
  bgp : t.ppu.bgp = s.ppu.bgp
  obp0 : t.ppu.obp0 = s.ppu.obp0
  obp1 : t.ppu.obp1 = s.ppu.obp1
  wy : t.ppu.wy = s.ppu.wy
  wx : t.ppu.wx = s.ppu.wx

namespace PpuOnly

theorem refl (s : State) : PpuOnly s s :=
  ⟨rfl, rfl, rfl, rfl, rfl, BitVec.and_self, rfl, rfl, rfl, rfl, rfl, rfl, rfl, rfl, rfl, rfl⟩

/-- Bits kept twice are kept. -/
theorem kept_trans {x y z : BitVec 5} (h : y &&& x = x) (k : z &&& y = y) : z &&& x = x := by
  rw [← h, ← BitVec.and_assoc, k]

theorem trans {s t u : State} (h : PpuOnly s t) (k : PpuOnly t u) : PpuOnly s u :=
  ⟨k.cpu.trans h.cpu, k.bus.trans h.bus, k.env.trans h.env, k.ie.trans h.ie, k.high.trans h.high,
    kept_trans h.kept k.kept, k.lcdc.trans h.lcdc, k.statEn.trans h.statEn, k.scy.trans h.scy, k.scx.trans h.scx,
    k.lyc.trans h.lyc, k.bgp.trans h.bgp, k.obp0.trans h.obp0, k.obp1.trans h.obp1, k.wy.trans h.wy, k.wx.trans h.wx⟩

/-- A change of the PPU's internal state. -/
theorem ofPpu {s : State} {p : Ppu} (h : p.lcdc = s.ppu.lcdc ∧ p.statEn = s.ppu.statEn ∧ p.scy = s.ppu.scy ∧
    p.scx = s.ppu.scx ∧ p.lyc = s.ppu.lyc ∧ p.bgp = s.ppu.bgp ∧ p.obp0 = s.ppu.obp0 ∧ p.obp1 = s.ppu.obp1 ∧
    p.wy = s.ppu.wy ∧ p.wx = s.ppu.wx) : PpuOnly s { s with ppu := p } := by
  obtain ⟨h1, h2, h3, h4, h5, h6, h7, h8, h9, h10⟩ := h
  exact ⟨rfl, rfl, rfl, rfl, rfl, BitVec.and_self, h1, h2, h3, h4, h5, h6, h7, h8, h9, h10⟩

/-- The PPU raises bits 0 and 1 only. -/
theorem request {k : Nat} (hk : k = 0 ∨ k = 1) (s : State) : PpuOnly s (Machine.request k s) := by
  have hh : ∀ x : BitVec 5, ((x ||| BitVec.twoPow 5 k).extractLsb' 2 3 = x.extractLsb' 2 3) ∧
      (x ||| BitVec.twoPow 5 k) &&& x = x := by
    rcases hk with rfl | rfl <;> decide
  exact ⟨rfl, rfl, rfl, rfl, (hh _).1, (hh _).2, rfl, rfl, rfl, rfl, rfl, rfl, rfl, rfl, rfl, rfl⟩

theorem setMode (m : PpuMode) (s : State) : PpuOnly s (Machine.setMode m s) := by
  have h : PpuOnly s { s with ppu.mode := m } := ofPpu ⟨rfl, rfl, rfl, rfl, rfl, rfl, rfl, rfl, rfl, rfl⟩
  unfold Machine.setMode
  dsimp only
  split
  · exact h.trans (request (.inr rfl) _)
  · exact h

theorem renderLine (line : Byte) (s : State) : PpuOnly s (Machine.renderLine line s) :=
  ofPpu ⟨rfl, rfl, rfl, rfl, rfl, rfl, rfl, rfl, rfl, rfl⟩

theorem tickOff (s : State) : PpuOnly s (Machine.tickOff s) := by
  unfold Machine.tickOff Machine.lcdStop
  dsimp only
  split <;> split <;> exact ofPpu ⟨rfl, rfl, rfl, rfl, rfl, rfl, rfl, rfl, rfl, rfl⟩

theorem lcdStart (s : State) : PpuOnly s (Machine.lcdStart s) :=
  (ofPpu ⟨rfl, rfl, rfl, rfl, rfl, rfl, rfl, rfl, rfl, rfl⟩ : PpuOnly s
    { s with ppu.lcdRunning := true, ppu.ly := 0, ppu.dot := 0, ppu.offDots := 0 }).trans (setMode _ _)

theorem midLine (s : State) : PpuOnly s (Machine.midLine s) := by
  unfold Machine.midLine
  split
  · split
    · exact setMode _ _
    · split
      · exact (renderLine _ _).trans (setMode _ _)
      · exact refl _
  · exact refl _

theorem nextLine (s : State) : PpuOnly s (Machine.nextLine s) := by
  unfold Machine.nextLine
  split <;> exact ofPpu ⟨rfl, rfl, rfl, rfl, rfl, rfl, rfl, rfl, rfl, rfl⟩

theorem lycCheck (s : State) : PpuOnly s (Machine.lycCheck s) := by
  unfold Machine.lycCheck
  split
  · exact request (.inr rfl) _
  · exact refl _

theorem enterLine (s : State) : PpuOnly s (Machine.enterLine s) := by
  unfold Machine.enterLine
  split
  · exact (setMode _ _).trans (request (.inl rfl) _)
  · split
    · exact setMode _ _
    · exact refl _

theorem endLine (s : State) : PpuOnly s (Machine.endLine s) := by
  unfold Machine.endLine
  split
  · exact ((nextLine _).trans (lycCheck _)).trans (enterLine _)
  · exact refl _

theorem tickOn (s : State) : PpuOnly s (Machine.tickOn s) := by
  unfold Machine.tickOn
  dsimp only
  refine trans (trans ?_ (midLine _)) (endLine _)
  split
  · exact ofPpu ⟨rfl, rfl, rfl, rfl, rfl, rfl, rfl, rfl, rfl, rfl⟩
  · exact (lcdStart s).trans (ofPpu ⟨rfl, rfl, rfl, rfl, rfl, rfl, rfl, rfl, rfl, rfl⟩)

theorem ppuTick (s : State) : PpuOnly s (Machine.ppuTick s) := by
  unfold Machine.ppuTick
  split
  · exact tickOn _
  · exact tickOff _

theorem ppuTicks (n : Nat) (s : State) : PpuOnly s (Machine.ppuTicks n s) := by
  induction n generalizing s with
  | zero => exact refl _
  | succ n ih => exact (ppuTick s).trans (ih _)

theorem ppuAdvance (n : Nat) (s : State) : PpuOnly s (Machine.ppuAdvance n s) :=
  (ofPpu ⟨rfl, rfl, rfl, rfl, rfl, rfl, rfl, rfl, rfl, rfl⟩ : PpuOnly s { s with ppu.frameEvent := 0 }).trans
    (ppuTicks n _)

end PpuOnly

/-! ## Entering a mode -/

/-- The PPU after a mode is entered. -/
theorem setMode_ppu (m : PpuMode) (s : State) : (setMode m s).ppu = { s.ppu with mode := m } := by
  unfold setMode
  dsimp only
  split <;> rfl

/-- IF after a mode is entered (R263). -/
theorem setMode_ifr (m : PpuMode) (s : State) :
    (setMode m s).irq.ifr = if modeRequests m s then s.irq.ifr ||| BitVec.twoPow 5 1 else s.irq.ifr := by
  have : modeRequests m { s with ppu.mode := m } = modeRequests m s := rfl
  unfold setMode
  dsimp only
  rw [this]
  split <;> rfl

/-! ## A tick of a running display -/

/-- A tick of a running display, without the case of its start. -/
theorem ppuTick_running {s : State} (hl : s.ppu.lcdc.getLsbD 7 = true) (hr : s.ppu.lcdRunning = true) :
    ppuTick s = endLine (midLine { s with ppu.dot := s.ppu.dot + 1 }) := by
  simp [ppuTick, lcdcBit, hl, tickOn, hr]

/-- A dot that ends no mode and no line only counts. -/
theorem ppuTick_plain {s : State} (hl : s.ppu.lcdc.getLsbD 7 = true) (hr : s.ppu.lcdRunning = true)
    (hm : s.ppu.ly.toNat < 144 → s.ppu.dot ≠ 79 ∧ s.ppu.dot ≠ 251) (he : s.ppu.dot ≠ 455) :
    ppuTick s = { s with ppu.dot := s.ppu.dot + 1 } := by
  have h1 : ¬ s.ppu.dot + 1 = 456 := by omega
  rw [ppuTick_running hl hr]
  unfold endLine midLine
  dsimp only
  by_cases hv : s.ppu.ly.toNat < 144
  · have h2 : ¬ s.ppu.dot + 1 = 80 := by have := (hm hv).1; omega
    have h3 : ¬ s.ppu.dot + 1 = 252 := by have := (hm hv).2; omega
    simp only [if_pos hv, if_neg h2, if_neg h3, if_neg h1]
  · simp only [if_neg hv, if_neg h1]

/-- The dot that ends mode 2 enters mode 3. -/
theorem ppuTick_transfer {s : State} (hl : s.ppu.lcdc.getLsbD 7 = true) (hr : s.ppu.lcdRunning = true)
    (hv : s.ppu.ly.toNat < 144) (hd : s.ppu.dot = 79) :
    ppuTick s = { s with ppu.dot := 80, ppu.mode := .transfer } := by
  rw [ppuTick_running hl hr]
  simp [endLine, midLine, hv, hd, setMode, modeRequests, PpuMode.enableBit]

/-- The dot that ends mode 3 renders the line and enters mode 0. -/
theorem ppuTick_render {s : State} (hl : s.ppu.lcdc.getLsbD 7 = true) (hr : s.ppu.lcdRunning = true)
    (hv : s.ppu.ly.toNat < 144) (hd : s.ppu.dot = 251) :
    ppuTick s = setMode .hblank (renderLine s.ppu.ly { s with ppu.dot := 252 }) := by
  have h : ∀ t : State, t.ppu.dot = 252 → endLine (setMode .hblank t) = setMode .hblank t := by
    intro t ht
    simp [endLine, setMode_ppu, ht]
  rw [ppuTick_running hl hr]
  simp only [midLine, hv, hd, if_true]
  exact h _ rfl

/-- The last dot of a line. -/
theorem ppuTick_lineEnd {s : State} (hl : s.ppu.lcdc.getLsbD 7 = true) (hr : s.ppu.lcdRunning = true)
    (hd : s.ppu.dot = 455) :
    ppuTick s = enterLine (lycCheck (nextLine { s with ppu.dot := 456 })) := by
  rw [ppuTick_running hl hr]
  by_cases hv : s.ppu.ly.toNat < 144 <;> simp [endLine, midLine, hv, hd]

/-! ## The end of a line, field by field -/

@[simp] theorem lycCheck_ppu (s : State) : (lycCheck s).ppu = s.ppu := by
  unfold lycCheck
  split <;> rfl

/-- IF after the LYC check (R264). -/
theorem lycCheck_ifr (s : State) :
    (lycCheck s).irq.ifr =
      if s.ppu.ly = s.ppu.lyc ∧ s.ppu.statEn.getLsbD 3 = true then s.irq.ifr ||| BitVec.twoPow 5 1 else s.irq.ifr := by
  unfold lycCheck
  split <;> rfl

/-- The PPU after the mode of a new line is entered. -/
theorem enterLine_ppu (s : State) :
    (enterLine s).ppu = { s.ppu with
      mode := if s.ppu.ly = 144 then .vblank else if s.ppu.ly.toNat < 144 then .oamScan else s.ppu.mode } := by
  unfold enterLine
  by_cases h1 : s.ppu.ly = 144
  · rw [if_pos h1, if_pos h1, request_ppu, setMode_ppu]
  · rw [if_neg h1, if_neg h1]
    by_cases h2 : s.ppu.ly.toNat < 144
    · rw [if_pos h2, if_pos h2, setMode_ppu]
    · rw [if_neg h2, if_neg h2]

/-- The PPU with its line advanced: LY goes from 153 to 0, and that is the frame boundary (R262). -/
theorem nextLine_ppu (s : State) :
    (nextLine s).ppu = { s.ppu with
      dot := 0
      ly := if s.ppu.ly = 153 then 0 else s.ppu.ly + 1
      windowLine := if s.ppu.ly = 153 then 0 else s.ppu.windowLine
      frameEvent := if s.ppu.ly = 153 then s.ppu.frameEvent + 1 else s.ppu.frameEvent } := by
  have e : s.ppu.ly + 1 = 154 ↔ s.ppu.ly = 153 := by
    constructor <;> intro h <;> bv_omega
  unfold nextLine
  by_cases h : s.ppu.ly = 153
  · rw [if_pos (e.mpr h)]
    simp only [h, if_true]
  · rw [if_neg (fun k => h (e.mp k))]
    simp only [h, if_false]

@[simp] theorem nextLine_irq (s : State) : (nextLine s).irq = s.irq := by
  unfold nextLine
  split <;> rfl

/-- LY as a number after a line step. -/
theorem toNat_nextLy {ly : Byte} (h : ly.toNat ≤ 153) :
    (if ly = 153 then 0 else ly + 1 : Byte).toNat = if ly.toNat = 153 then 0 else ly.toNat + 1 := by
  by_cases h1 : ly = 153
  · subst h1; rfl
  · have h2 : ly.toNat ≠ 153 := fun h3 => h1 (BitVec.eq_of_toNat_eq h3)
    rw [if_neg h1, if_neg h2, BitVec.toNat_add, show (1 : Byte).toNat = 1 from rfl]
    omega

/-- The PPU after the last dot of a line. -/
theorem ppuTick_lineEnd_ppu {s : State} (hl : s.ppu.lcdc.getLsbD 7 = true) (hr : s.ppu.lcdRunning = true)
    (hd : s.ppu.dot = 455) :
    let next : Byte := if s.ppu.ly = 153 then 0 else s.ppu.ly + 1
    (ppuTick s).ppu = { s.ppu with
      dot := 0
      ly := next
      windowLine := if s.ppu.ly = 153 then 0 else s.ppu.windowLine
      frameEvent := if s.ppu.ly = 153 then s.ppu.frameEvent + 1 else s.ppu.frameEvent
      mode := if next = 144 then .vblank else if next.toNat < 144 then .oamScan else s.ppu.mode } := by
  intro next
  rw [ppuTick_lineEnd hl hr hd, enterLine_ppu, lycCheck_ppu, nextLine_ppu]

/-! ## A tick with the display off -/

/-- A tick with LCDC[7] clear. -/
theorem ppuTick_off {s : State} (hl : s.ppu.lcdc.getLsbD 7 = false) : ppuTick s = tickOff s := by
  simp only [ppuTick, lcdcBit, hl, Bool.false_eq_true, if_false]

end Sys2Proof.Machine
end

