-- ==== Sys2Proof/Laws/Inv.lean ====
section
/-! SUPPORT. The parts of a step keep the invariant of `Sys2Proof/Safety.lean`, part by part. -/

namespace Sys2Proof.Machine

/-- The window line counter does not wrap below its bound. -/
theorem toNat_windowLine_succ {w : Byte} {n : Nat} (h : w.toNat ≤ n) (hn : n < 255) : (w + 1).toNat ≤ n + 1 := by
  rw [BitVec.toNat_add, show (1 : Byte).toNat = 1 from rfl]; omega

/-- A row of 160 shades keeps the shape of the framebuffer. -/
theorem framebuffer_set_shape {fb : List (List (BitVec 2))} {k : Nat} {row : List (BitVec 2)} (h : fb.length = 144 ∧ ∀ r ∈ fb, r.length = 160) (hr : row.length = 160) :
   (fb.set k row).length = 144 ∧ ∀ r ∈ fb.set k row, r.length = 160 := by
  refine ⟨by simp [h.1], ?_⟩
  intro r hm
  rcases List.mem_or_eq_of_mem_set hm with h1 | h1
  · exact h.2 r h1
  · rw [h1]; exact hr

/-- The blank frame has the shape of the framebuffer. -/
theorem blankFramebuffer_shape : blankFramebuffer.length = 144 ∧ ∀ r ∈ blankFramebuffer, r.length = 160 := by
  refine ⟨by simp [blankFramebuffer], ?_⟩
  intro r h
  rw [blankFramebuffer] at h
  rw [List.eq_of_mem_replicate h]; simp

/-- A rendered line has 160 shades. -/
theorem lineShades_length (l s) : (lineShades l s).length = 160 := by simp [lineShades]

/-- A tick of a running display keeps the PPU's part of the invariant. -/
theorem ppuInv_tick_running {s : State} (hl : s.ppu.lcdc.getLsbD 7 = true) (hr : s.ppu.lcdRunning = true) (h : PpuInv s) : PpuInv (ppuTick s) := by
  obtain ⟨a1, a2, a3, a4, a5, a6, a7, a8⟩ := h
  have hm := a4 hr
  by_cases hd : s.ppu.dot = 455
  · have hp := ppuTick_lineEnd_ppu hl hr hd
    have hn := toNat_nextLy a1
    have e153 : s.ppu.ly = 153 ↔ s.ppu.ly.toNat = 153 := ⟨fun h => by rw [h]; rfl, fun h => BitVec.eq_of_toNat_eq h⟩
    dsimp only at hp
    generalize hx : (if s.ppu.ly = 153 then (0 : Byte) else s.ppu.ly + 1) = nx at hp hn
    have e144 : nx = 144 ↔ nx.toNat = 144 := ⟨fun h => by rw [h]; rfl, fun h => BitVec.eq_of_toNat_eq h⟩
    unfold PpuInv
    simp only [hp]
    refine ⟨?_, by omega, a3, ?_, fun h => by simp [hr] at h, ?_, a7, a8⟩
    · rw [hn]; split <;> omega
    · intro _; rw [hm]; unfold modeAt; simp only [e144, hn, hd]
      by_cases a : s.ppu.ly.toNat = 153
      · simp [a]
      · simp only [a, if_false]
        by_cases b : s.ppu.ly.toNat ≥ 144
        · simp [b, show ¬ s.ppu.ly.toNat + 1 = 144 by omega, show ¬ s.ppu.ly.toNat + 1 < 144 by omega, show 144 ≤ s.ppu.ly.toNat + 1 by omega]
        · by_cases c : s.ppu.ly.toNat = 143
          · simp [c]
          · simp [show ¬ s.ppu.ly.toNat + 1 = 144 by omega, show s.ppu.ly.toNat + 1 < 144 by omega, show ¬ 144 ≤ s.ppu.ly.toNat + 1 by omega]
    · simp only [e153]
      unfold windowLineBound at *
      rw [hn]; rw [hd] at a6
      by_cases a : s.ppu.ly.toNat = 153
      · simp [a]
      · simp only [a, if_false]
        by_cases b : s.ppu.ly.toNat ≥ 144
        · rw [if_pos b] at a6; rw [if_pos (by omega)]; exact a6
        · rw [if_neg b, if_neg (by omega)] at a6
          by_cases c : s.ppu.ly.toNat = 143
          · rw [if_pos (by omega)]; omega
          · rw [if_neg (by omega), if_pos (by omega)]; exact a6
  · by_cases hv : s.ppu.ly.toNat < 144
    · have nv : ¬ s.ppu.ly.toNat ≥ 144 := by omega
      unfold windowLineBound at a6; rw [if_neg nv] at a6
      by_cases h79 : s.ppu.dot = 79
      · rw [ppuTick_transfer hl hr hv h79]
        refine ⟨a1, by dsimp only; omega, a3, fun _ => by simp [modeAt, nv], fun h => by simp [hr] at h, ?_, a7, a8⟩
        rw [h79, if_pos (by omega)] at a6
        simpa [windowLineBound, nv] using a6
      · by_cases h251 : s.ppu.dot = 251
        · rw [ppuTick_render hl hr hv h251]
          unfold PpuInv 
          simp only [setMode_ppu, renderLine]
          rw [h251, if_pos (by omega)] at a6
          obtain ⟨f1, f2⟩ := framebuffer_set_shape (k := s.ppu.ly.toNat) ⟨a7, a8⟩ (lineShades_length s.ppu.ly {s with ppu.dot := 252})
          refine ⟨a1, by omega, a3, fun _ => by simp [modeAt, nv], fun h => by simp [hr] at h, ?_, f1, f2⟩
          have : windowLineBound s.ppu.ly 252 = s.ppu.ly.toNat + 1 := by simp [windowLineBound, nv]
          rw [this]
          split
          · exact toNat_windowLine_succ a6 (by omega)
          · exact Nat.le_succ_of_le a6
        · rw [ppuTick_plain hl hr (fun _ => ⟨h79, h251⟩) hd]
          refine ⟨a1, by dsimp only; omega, a3, fun _ => ?_, fun h => by simp [hr] at h, ?_, a7, a8⟩
          · dsimp only; rw [hm]; unfold modeAt; simp only [nv, if_false]; 
            by_cases a : s.ppu.dot < 80
            · simp [a, show s.ppu.dot + 1 < 80 by omega]
            · by_cases b : s.ppu.dot < 252
              · simp [a, b, show ¬ s.ppu.dot + 1 < 80 by omega, show s.ppu.dot + 1 < 252 by omega]
              · simp [a, b, show ¬ s.ppu.dot + 1 < 80 by omega, show ¬ s.ppu.dot + 1 < 252 by omega]
          · dsimp only; unfold windowLineBound; rw [if_neg nv]
            split at a6
            · rw [if_pos (by omega)]; exact a6
            · rw [if_neg (by omega)]; exact a6
    · rw [ppuTick_plain hl hr (fun h => absurd h hv) hd]
      have nv : s.ppu.ly.toNat ≥ 144 := by omega
      refine ⟨a1, by dsimp only; omega, a3, fun _ => by dsimp only; rw [hm]; simp [modeAt, nv], fun h => by simp [hr] at h, ?_, a7, a8⟩
      dsimp only; unfold windowLineBound at *; rw [if_pos nv] at *; exact a6

/-- The PPU just after the display is enabled. -/
theorem lcdStart_ppu (s) : (lcdStart s).ppu = { s.ppu with lcdRunning := true, ly := 0, dot := 0, offDots := 0, mode := .oamScan } := by
  unfold lcdStart; rw [setMode_ppu]

/-- Every tick keeps the PPU's part. -/
theorem ppuInv_tick {s : State} (h : PpuInv s) : PpuInv (ppuTick s) := by
  by_cases hl : s.ppu.lcdc.getLsbD 7 = true
  · by_cases hr : s.ppu.lcdRunning = true
    · exact ppuInv_tick_running hl hr h
    · have hr : s.ppu.lcdRunning = false := by simpa using hr
      obtain ⟨a1, a2, a3, a4, a5, a6, a7, a8⟩ := h
      obtain ⟨b1, b2, b3, b4⟩ := a5 hr
      have e : ppuTick s = ppuTick (lcdStart s) := by
        have r1 : (lcdStart s).ppu.lcdRunning = true := by rw [lcdStart_ppu]
        have r2 : (lcdStart s).ppu.lcdc.getLsbD 7 = true := by rw [lcdStart_ppu]; exact hl
        rw [ppuTick_running r2 r1]
        simp only [ppuTick, lcdcBit, hl, if_true, tickOn, hr]; rfl
      rw [e]
      apply ppuInv_tick_running
      · rw [lcdStart_ppu]; exact hl
      · rw [lcdStart_ppu]
      · unfold PpuInv; rw [lcdStart_ppu]
        refine ⟨by simp, by simp, by simp [dotsPerFrame], fun _ => by simp [modeAt], fun h => by simp at h, ?_, a7, a8⟩
        dsimp only
        rw [b1, b2] at a6; exact a6
  · have hl : s.ppu.lcdc.getLsbD 7 = false := by simpa using hl
    rw [ppuTick_off hl]
    obtain ⟨a1, a2, a3, a4, a5, a6, a7, a8⟩ := h
    have blk := blankFramebuffer_shape
    unfold tickOff
    by_cases hr : s.ppu.lcdRunning = true
    · simp only [hr, if_true, lcdStop]
      rw [if_neg (by simp [dotsPerFrame])]
      refine ⟨by simp, by simp, by simp [dotsPerFrame], fun h => by simp at h, fun _ => by simp, by simp [windowLineBound], blk.1, blk.2⟩
    · have hr : s.ppu.lcdRunning = false := by simpa using hr
      simp only [hr, Bool.false_eq_true, if_false]
      have := a5 hr
      split
      · exact ⟨a1, a2, by simp [dotsPerFrame], fun h => by simp at h, fun _ => this, a6, a7, a8⟩
      · exact ⟨a1, a2, by dsimp only; unfold dotsPerFrame at *; omega, fun h => by simp at h, fun _ => this, a6, a7, a8⟩

/-- The PPU advance keeps the invariant. -/
theorem inv_advance (n) {s : State} (h : Inv s) : Inv (ppuAdvance n s) := by
  have k := PpuOnly.ppuAdvance n s
  refine ⟨?_, ?_, ?_⟩
  · have := h.1; unfold CpuInv at *; rw [k.cpu, k.env]; exact this
  · have h2 : PpuInv { s with ppu.frameEvent := 0 } := h.2.1
    have : ∀ n t, PpuInv t → PpuInv (ppuTicks n t) := by
      intro n; induction n with
      | zero => exact fun t h => h
      | succ n ih => exact fun t h => ih _ (ppuInv_tick h)
    exact this n _ h2
  · have := h.2.2; unfold BusInv at *; rw [k.bus]; exact this

/-- The PPU's part depends on its timing state alone. -/
theorem ppuInv_of_timing {s t : State} (k : Ppu.SameTiming s.ppu t.ppu) (h : PpuInv s) : PpuInv t := by
  obtain ⟨a1, a2, a3, a4, a5, a6, a7, a8⟩ := h
  unfold PpuInv
  rw [k.mode, k.ly, k.dot, k.windowLine, k.lcdRunning, k.offDots, k.framebuffer]
  exact ⟨a1, a2, a3, a4, a5, a6, a7, a8⟩

/-- A dispatch keeps the invariant. -/
theorem inv_takeInterrupt {s : State} (h : Inv s) : Inv (takeInterrupt s) := by
  refine ⟨?_, ppuInv_of_timing (takeInterrupt_timing s) h.2.1, takeInterrupt_wf h.2.2⟩
  obtain ⟨b1, b2, b3, b4⟩ := h.1
  unfold CpuInv; rw [takeInterrupt_cpu, takeInterrupt_env]
  exact ⟨b1, by simp, by simp, b4⟩

/-- What `Keeps` says is enough for the invariant. -/
theorem inv_of_keeps {s t : State} (k : Keeps s t) (h : Inv s) : Inv t := by
  obtain ⟨b1, b2, b3, b4⟩ := h.1
  refine ⟨⟨k.low b1, k.delay b2, by rw [k.halted, k.stopped]; exact b3, by rw [k.latch, k.env]; exact b4⟩, ppuInv_of_timing k.timing h.2.1, k.wf h.2.2⟩

/-- The cycle count takes no part in the invariant. -/
theorem inv_setCycles {s : State} (n) (h : Inv s) : Inv (setCycles n s) := inv_of_keeps (.setCycles n s) h

/-- The interrupt check keeps the invariant. -/
theorem inv_interruptCheck {s : State} (h : Inv s) : Inv (interruptCheck s) := by
  unfold interruptCheck; split
  · exact inv_setCycles _ (inv_takeInterrupt h)
  · exact h

/-- The boundary keeps the invariant. -/
theorem inv_boundary {s : State} (h : Inv s) : Inv (boundary s) := by
  unfold boundary
  obtain ⟨⟨b1, b2, b3, b4⟩, h2, h3⟩ := h
  split
  · split
    · exact ⟨⟨b1, by simp, b3, b4⟩, h2, h3⟩
    · exact ⟨⟨b1, by dsimp only; omega, b3, b4⟩, h2, h3⟩
  · exact ⟨⟨b1, b2, b3, b4⟩, h2, h3⟩

/-- A step of a halted CPU keeps the invariant. -/
theorem inv_haltedStep {s : State} (h : Inv s) : Inv (haltedStep s) := by
  have h' : Inv { s with cpu.halted := false } := by
    obtain ⟨⟨b1, b2, b3, b4⟩, h2, h3⟩ := h
    exact ⟨⟨b1, b2, by simp, b4⟩, h2, h3⟩
  unfold haltedStep; dsimp only; split
  · exact inv_setCycles _ h
  · split
    · exact inv_setCycles _ (inv_takeInterrupt h')
    · exact inv_setCycles _ h'

/-- Fetching keeps the invariant and the run state. -/
theorem inv_fetchInstr (s : State) : Inv s → Inv (fetchInstr s).2 ∧ (fetchInstr s).2.cpu.halted = s.cpu.halted ∧ (fetchInstr s).2.cpu.stopped = s.cpu.stopped := by
  intro h
  have h1 : Inv (fetchOpcode s).2 ∧ (fetchOpcode s).2.cpu.halted = s.cpu.halted ∧ (fetchOpcode s).2.cpu.stopped = s.cpu.stopped ∧ (fetchOpcode s).2.env = s.env := by
    have k := Keeps.memRead s.cpu.pc s
    have hi := inv_of_keeps k h
    unfold fetchOpcode; dsimp only; split
    · obtain ⟨⟨b1, b2, b3, b4⟩, h2, h3⟩ := hi
      exact ⟨⟨⟨b1, b2, b3, by simp⟩, h2, h3⟩, k.halted, k.stopped, k.env⟩
    · exact ⟨inv_of_keeps (.setPc _ _) hi, k.halted, k.stopped, k.env⟩
  have h8 : ∀ t, Keeps t (fetch8 t).2 := fun t => (Keeps.memRead _ _).trans (.setPc _ _)
  obtain ⟨i, a, b, c⟩ := h1
  unfold fetchInstr; dsimp only
  split
  · obtain ⟨⟨b1, b2, b3, b4⟩, h2, h3⟩ := i
    refine ⟨⟨⟨b1, b2, b3, ?_⟩, h2, h3⟩, a, b⟩
    intro e; show (fetchOpcode s).2.env.cfg.haltBug = true; rw [c]; exact h.1.2.2.2 e
  · split
    · exact ⟨i, a, b⟩
    · exact ⟨inv_of_keeps (h8 _) i, (h8 _).halted.trans a, (h8 _).stopped.trans b⟩
    · have k := (h8 (fetchOpcode s).2).trans (h8 (fetch8 (fetchOpcode s).2).2)
      exact ⟨inv_of_keeps k i, k.halted.trans a, k.stopped.trans b⟩

/-- Every instruction of a running CPU keeps the invariant. -/
theorem inv_exec {i s t} (h : Inv s) (h1 : s.cpu.halted = false) (h2 : s.cpu.stopped = false) (he : exec i s = .next t) : Inv t := by
  rcases exec_cases i s with ⟨u, e, k⟩ | ⟨e, -⟩ | ⟨p, e, -⟩ | ⟨op, e, -⟩
  · rw [e] at he; cases he; exact inv_of_keeps k h
  · rw [e] at he; cases he
    obtain ⟨⟨b1, b2, b3, b4⟩, c2, c3⟩ := h
    unfold opHalt; split
    · rename_i hh
      exact ⟨⟨b1, b2, b3, fun _ => hh.1⟩, c2, c3⟩
    · exact ⟨⟨b1, b2, by simp [setCycles, h2], b4⟩, c2, c3⟩
  · rw [e] at he; cases he
    obtain ⟨⟨b1, b2, b3, b4⟩, c2, c3⟩ := h
    exact ⟨⟨b1, b2, by simp [opStop, setCycles, h1], b4⟩, c2, c3⟩
  · rw [e] at he; cases he

/-- The host's moves keep the invariant. -/
theorem inv_takeMoves {s : State} (h : Inv s) : Inv (takeMoves s) := by
  have hm : ∀ m t, Inv t → Inv (hostMove m t) := by
    intro m t h
    obtain ⟨⟨b1, b2, b3, b4⟩, h2, h3⟩ := h
    cases m
    · exact ⟨⟨b1, b2, b3, b4⟩, h2, h3⟩
    · exact ⟨⟨b1, b2, by simp [hostMove], b4⟩, h2, h3⟩
  unfold takeMoves; split
  · exact h
  · rename_i ms later _
    have : ∀ (ms : List HostMove) t, Inv t → Inv (ms.foldl (fun t m => hostMove m t) t) := by
      intro ms; induction ms with
      | nil => exact fun t h => h
      | cons m ms ih => exact fun t h => ih _ (hm _ _ h)
    exact this _ _ h

end Sys2Proof.Machine
end

