-- ==== Sys2Proof/Tests/Slice0.lean ====
section
/-! SUPPORT. Tests of the model and witnesses of the statements' premises.

The expected results come from the spec: the opcode maps R104 and R105 for decoding, the worked examples and vectors of
`spec/95_test_vectors.md` for the effects (each vector's number is in its theorem's name). A vector starts with PC = 0xC000
and every other field at its reset value, as section 0 of that file says. -/

-- The theorems are elaborated one after another: each is small, and many threads at once cost more memory than time.
set_option Elab.async false

namespace Sys2Proof.Tests

open Sys2Proof Sys2Proof.Machine

/-! ## Helpers -/

/-- The reset state with PC at 0xC000, the given bytes there, and the given bytes elsewhere. -/
def lab (code : List Byte) (extra : List Host.Cell) : State :=
  let cells := (List.range code.length).zip code |>.map (fun x => (0xC000 + x.1, x.2))
  (cells ++ extra).foldl (fun s x => memWrite (BitVec.ofNat 16 x.1) x.2 s) { State.reset with cpu.pc := 0xC000 }

/-- What is seen of the next state; none after a fault or a refusal. -/
def seen {α : Type} (r : Result) (f : State → α) : Option α :=
  match r with
  | .next t => some (f t)
  | .fault _ => none
  | .refused _ => none

/-- The state a result ends in, the given one where it does not end in a state. -/
def orElse (s : State) (r : Result) : State :=
  match r with
  | .next t => t
  | .fault _ => s
  | .refused _ => s

/-! ## Well-formed instructions -/

/-- The only check: the prefix row is an escape, not an instruction. -/
theorem test_prefix_row_is_illFormed : ∀ cb : Byte, ¬ WellFormed (.prefix_cb cb) := by
  intro cb h
  cases h

/-- Every instruction that the decoder gives is whole. -/
theorem test_decoded_is_wellFormed : ∀ op : Byte, WellFormed (decodeBytes op 0x34 0x12) := by decide +kernel

/-! ## Decoding: one row of the opcode maps of R104 and R105 a theorem, each opcode followed by 0x34, 0x12 -/

theorem test_decode_base_row_0 :
    (List.range 16).map (fun n => decodeBytes (BitVec.ofNat 8 (0x00 + n)) 0x34 0x12) =
      [.nop, .ld_bc_d16 0x1234, .ld_atBc_a, .inc_bc,
        .inc_b, .dec_b, .ld_b_d8 0x34, .rlca,
        .ld_atA16_sp 0x1234, .add_hl_bc, .ld_a_atBc, .dec_bc,
        .inc_c, .dec_c, .ld_c_d8 0x34, .rrca] := by decide +kernel

theorem test_decode_base_row_1 :
    (List.range 16).map (fun n => decodeBytes (BitVec.ofNat 8 (0x10 + n)) 0x34 0x12) =
      [.stop 0x34, .ld_de_d16 0x1234, .ld_atDe_a, .inc_de,
        .inc_d, .dec_d, .ld_d_d8 0x34, .rla,
        .jr_e8 0x34, .add_hl_de, .ld_a_atDe, .dec_de,
        .inc_e, .dec_e, .ld_e_d8 0x34, .rra] := by decide +kernel

theorem test_decode_base_row_2 :
    (List.range 16).map (fun n => decodeBytes (BitVec.ofNat 8 (0x20 + n)) 0x34 0x12) =
      [.jr_nz_e8 0x34, .ld_hl_d16 0x1234, .ld_atHli_a, .inc_hl,
        .inc_h, .dec_h, .ld_h_d8 0x34, .daa,
        .jr_z_e8 0x34, .add_hl_hl, .ld_a_atHli, .dec_hl,
        .inc_l, .dec_l, .ld_l_d8 0x34, .cpl] := by decide +kernel

theorem test_decode_base_row_3 :
    (List.range 16).map (fun n => decodeBytes (BitVec.ofNat 8 (0x30 + n)) 0x34 0x12) =
      [.jr_nc_e8 0x34, .ld_sp_d16 0x1234, .ld_atHld_a, .inc_sp,
        .inc_atHl, .dec_atHl, .ld_atHl_d8 0x34, .scf,
        .jr_c_e8 0x34, .add_hl_sp, .ld_a_atHld, .dec_sp,
        .inc_a, .dec_a, .ld_a_d8 0x34, .ccf] := by decide +kernel

theorem test_decode_base_row_4 :
    (List.range 16).map (fun n => decodeBytes (BitVec.ofNat 8 (0x40 + n)) 0x34 0x12) =
      [.ld_b_b, .ld_b_c, .ld_b_d, .ld_b_e,
        .ld_b_h, .ld_b_l, .ld_b_atHl, .ld_b_a,
        .ld_c_b, .ld_c_c, .ld_c_d, .ld_c_e,
        .ld_c_h, .ld_c_l, .ld_c_atHl, .ld_c_a] := by decide +kernel

theorem test_decode_base_row_5 :
    (List.range 16).map (fun n => decodeBytes (BitVec.ofNat 8 (0x50 + n)) 0x34 0x12) =
      [.ld_d_b, .ld_d_c, .ld_d_d, .ld_d_e,
        .ld_d_h, .ld_d_l, .ld_d_atHl, .ld_d_a,
        .ld_e_b, .ld_e_c, .ld_e_d, .ld_e_e,
        .ld_e_h, .ld_e_l, .ld_e_atHl, .ld_e_a] := by decide +kernel

theorem test_decode_base_row_6 :
    (List.range 16).map (fun n => decodeBytes (BitVec.ofNat 8 (0x60 + n)) 0x34 0x12) =
      [.ld_h_b, .ld_h_c, .ld_h_d, .ld_h_e,
        .ld_h_h, .ld_h_l, .ld_h_atHl, .ld_h_a,
        .ld_l_b, .ld_l_c, .ld_l_d, .ld_l_e,
        .ld_l_h, .ld_l_l, .ld_l_atHl, .ld_l_a] := by decide +kernel

theorem test_decode_base_row_7 :
    (List.range 16).map (fun n => decodeBytes (BitVec.ofNat 8 (0x70 + n)) 0x34 0x12) =
      [.ld_atHl_b, .ld_atHl_c, .ld_atHl_d, .ld_atHl_e,
        .ld_atHl_h, .ld_atHl_l, .halt, .ld_atHl_a,
        .ld_a_b, .ld_a_c, .ld_a_d, .ld_a_e,
        .ld_a_h, .ld_a_l, .ld_a_atHl, .ld_a_a] := by decide +kernel

theorem test_decode_base_row_8 :
    (List.range 16).map (fun n => decodeBytes (BitVec.ofNat 8 (0x80 + n)) 0x34 0x12) =
      [.add_a_b, .add_a_c, .add_a_d, .add_a_e,
        .add_a_h, .add_a_l, .add_a_atHl, .add_a_a,
        .adc_a_b, .adc_a_c, .adc_a_d, .adc_a_e,
        .adc_a_h, .adc_a_l, .adc_a_atHl, .adc_a_a] := by decide +kernel

theorem test_decode_base_row_9 :
    (List.range 16).map (fun n => decodeBytes (BitVec.ofNat 8 (0x90 + n)) 0x34 0x12) =
      [.sub_b, .sub_c, .sub_d, .sub_e,
        .sub_h, .sub_l, .sub_atHl, .sub_a,
        .sbc_a_b, .sbc_a_c, .sbc_a_d, .sbc_a_e,
        .sbc_a_h, .sbc_a_l, .sbc_a_atHl, .sbc_a_a] := by decide +kernel

theorem test_decode_base_row_A :
    (List.range 16).map (fun n => decodeBytes (BitVec.ofNat 8 (0xA0 + n)) 0x34 0x12) =
      [.and_b, .and_c, .and_d, .and_e,
        .and_h, .and_l, .and_atHl, .and_a,
        .xor_b, .xor_c, .xor_d, .xor_e,
        .xor_h, .xor_l, .xor_atHl, .xor_a] := by decide +kernel

theorem test_decode_base_row_B :
    (List.range 16).map (fun n => decodeBytes (BitVec.ofNat 8 (0xB0 + n)) 0x34 0x12) =
      [.or_b, .or_c, .or_d, .or_e,
        .or_h, .or_l, .or_atHl, .or_a,
        .cp_b, .cp_c, .cp_d, .cp_e,
        .cp_h, .cp_l, .cp_atHl, .cp_a] := by decide +kernel

theorem test_decode_base_row_C :
    (List.range 16).map (fun n => decodeBytes (BitVec.ofNat 8 (0xC0 + n)) 0x34 0x12) =
      [.ret_nz, .pop_bc, .jp_nz_a16 0x1234, .jp_a16 0x1234,
        .call_nz_a16 0x1234, .push_bc, .add_a_d8 0x34, .rst_00,
        .ret_z, .ret, .jp_z_a16 0x1234, .swap_h,
        .call_z_a16 0x1234, .call_a16 0x1234, .adc_a_d8 0x34, .rst_08] := by decide +kernel

theorem test_decode_base_row_D :
    (List.range 16).map (fun n => decodeBytes (BitVec.ofNat 8 (0xD0 + n)) 0x34 0x12) =
      [.ret_nc, .pop_de, .jp_nc_a16 0x1234, .undefined_d3,
        .call_nc_a16 0x1234, .push_de, .sub_d8 0x34, .rst_10,
        .ret_c, .reti, .jp_c_a16 0x1234, .undefined_db,
        .call_c_a16 0x1234, .undefined_dd, .sbc_a_d8 0x34, .rst_18] := by decide +kernel

theorem test_decode_base_row_E :
    (List.range 16).map (fun n => decodeBytes (BitVec.ofNat 8 (0xE0 + n)) 0x34 0x12) =
      [.ldh_atA8_a 0x34, .pop_hl, .ld_atC_a, .undefined_e3,
        .undefined_e4, .push_hl, .and_d8 0x34, .rst_20,
        .add_sp_e8 0x34, .jp_hl, .ld_atA16_a 0x1234, .undefined_eb,
        .undefined_ec, .undefined_ed, .xor_d8 0x34, .rst_28] := by decide +kernel

theorem test_decode_base_row_F :
    (List.range 16).map (fun n => decodeBytes (BitVec.ofNat 8 (0xF0 + n)) 0x34 0x12) =
      [.ldh_a_atA8 0x34, .pop_af, .ld_a_atC, .di,
        .undefined_f4, .push_af, .or_d8 0x34, .rst_30,
        .ld_hl_spE8 0x34, .ld_sp_hl, .ld_a_atA16 0x1234, .ei,
        .undefined_fc, .undefined_fd, .cp_d8 0x34, .rst_38] := by decide +kernel

theorem test_decode_cb_row_0 :
    (List.range 16).map (fun n => decodeBytes 0xCB (BitVec.ofNat 8 (0x00 + n)) 0x12) =
      [.rlc_b, .rlc_c, .rlc_d, .rlc_e,
        .rlc_h, .rlc_l, .rlc_atHl, .rlc_a,
        .rrc_b, .rrc_c, .rrc_d, .rrc_e,
        .rrc_h, .rrc_l, .rrc_atHl, .rrc_a] := by decide +kernel

theorem test_decode_cb_row_1 :
    (List.range 16).map (fun n => decodeBytes 0xCB (BitVec.ofNat 8 (0x10 + n)) 0x12) =
      [.rl_b, .rl_c, .rl_d, .rl_e,
        .rl_h, .rl_l, .rl_atHl, .rl_a,
        .rr_b, .rr_c, .rr_d, .rr_e,
        .rr_h, .rr_l, .rr_atHl, .rr_a] := by decide +kernel

theorem test_decode_cb_row_2 :
    (List.range 16).map (fun n => decodeBytes 0xCB (BitVec.ofNat 8 (0x20 + n)) 0x12) =
      [.sla_b, .sla_c, .sla_d, .sla_e,
        .sla_h, .sla_l, .sla_atHl, .sla_a,
        .sra_b, .sra_c, .sra_d, .sra_e,
        .sra_h, .sra_l, .sra_atHl, .sra_a] := by decide +kernel

theorem test_decode_cb_row_3 :
    (List.range 16).map (fun n => decodeBytes 0xCB (BitVec.ofNat 8 (0x30 + n)) 0x12) =
      [.swap_b, .swap_c, .swap_d, .swap_e,
        .swap_h, .swap_l, .swap_atHl, .swap_a,
        .srl_b, .srl_c, .srl_d, .srl_e,
        .srl_h, .srl_l, .srl_atHl, .srl_a] := by decide +kernel

theorem test_decode_cb_row_4 :
    (List.range 16).map (fun n => decodeBytes 0xCB (BitVec.ofNat 8 (0x40 + n)) 0x12) =
      [.bit_0_b, .bit_0_c, .bit_0_d, .bit_0_e,
        .bit_0_h, .bit_0_l, .bit_0_atHl, .bit_0_a,
        .bit_1_b, .bit_1_c, .bit_1_d, .bit_1_e,
        .bit_1_h, .bit_1_l, .bit_1_atHl, .bit_1_a] := by decide +kernel

theorem test_decode_cb_row_5 :
    (List.range 16).map (fun n => decodeBytes 0xCB (BitVec.ofNat 8 (0x50 + n)) 0x12) =
      [.bit_2_b, .bit_2_c, .bit_2_d, .bit_2_e,
        .bit_2_h, .bit_2_l, .bit_2_atHl, .bit_2_a,
        .bit_3_b, .bit_3_c, .bit_3_d, .bit_3_e,
        .bit_3_h, .bit_3_l, .bit_3_atHl, .bit_3_a] := by decide +kernel

theorem test_decode_cb_row_6 :
    (List.range 16).map (fun n => decodeBytes 0xCB (BitVec.ofNat 8 (0x60 + n)) 0x12) =
      [.bit_4_b, .bit_4_c, .bit_4_d, .bit_4_e,
        .bit_4_h, .bit_4_l, .bit_4_atHl, .bit_4_a,
        .bit_5_b, .bit_5_c, .bit_5_d, .bit_5_e,
        .bit_5_h, .bit_5_l, .bit_5_atHl, .bit_5_a] := by decide +kernel

theorem test_decode_cb_row_7 :
    (List.range 16).map (fun n => decodeBytes 0xCB (BitVec.ofNat 8 (0x70 + n)) 0x12) =
      [.bit_6_b, .bit_6_c, .bit_6_d, .bit_6_e,
        .bit_6_h, .bit_6_l, .bit_6_atHl, .bit_6_a,
        .bit_7_b, .bit_7_c, .bit_7_d, .bit_7_e,
        .bit_7_h, .bit_7_l, .bit_7_atHl, .bit_7_a] := by decide +kernel

theorem test_decode_cb_row_8 :
    (List.range 16).map (fun n => decodeBytes 0xCB (BitVec.ofNat 8 (0x80 + n)) 0x12) =
      [.res_0_b, .res_0_c, .res_0_d, .res_0_e,
        .res_0_h, .res_0_l, .res_0_atHl, .res_0_a,
        .res_1_b, .res_1_c, .res_1_d, .res_1_e,
        .res_1_h, .res_1_l, .res_1_atHl, .res_1_a] := by decide +kernel

theorem test_decode_cb_row_9 :
    (List.range 16).map (fun n => decodeBytes 0xCB (BitVec.ofNat 8 (0x90 + n)) 0x12) =
      [.res_2_b, .res_2_c, .res_2_d, .res_2_e,
        .res_2_h, .res_2_l, .res_2_atHl, .res_2_a,
        .res_3_b, .res_3_c, .res_3_d, .res_3_e,
        .res_3_h, .res_3_l, .res_3_atHl, .res_3_a] := by decide +kernel

theorem test_decode_cb_row_A :
    (List.range 16).map (fun n => decodeBytes 0xCB (BitVec.ofNat 8 (0xA0 + n)) 0x12) =
      [.res_4_b, .res_4_c, .res_4_d, .res_4_e,
        .res_4_h, .res_4_l, .res_4_atHl, .res_4_a,
        .res_5_b, .res_5_c, .res_5_d, .res_5_e,
        .res_5_h, .res_5_l, .res_5_atHl, .res_5_a] := by decide +kernel

theorem test_decode_cb_row_B :
    (List.range 16).map (fun n => decodeBytes 0xCB (BitVec.ofNat 8 (0xB0 + n)) 0x12) =
      [.res_6_b, .res_6_c, .res_6_d, .res_6_e,
        .res_6_h, .res_6_l, .res_6_atHl, .res_6_a,
        .res_7_b, .res_7_c, .res_7_d, .res_7_e,
        .res_7_h, .res_7_l, .res_7_atHl, .res_7_a] := by decide +kernel

theorem test_decode_cb_row_C :
    (List.range 16).map (fun n => decodeBytes 0xCB (BitVec.ofNat 8 (0xC0 + n)) 0x12) =
      [.set_0_b, .set_0_c, .set_0_d, .set_0_e,
        .set_0_h, .set_0_l, .set_0_atHl, .set_0_a,
        .set_1_b, .set_1_c, .set_1_d, .set_1_e,
        .set_1_h, .set_1_l, .set_1_atHl, .set_1_a] := by decide +kernel

theorem test_decode_cb_row_D :
    (List.range 16).map (fun n => decodeBytes 0xCB (BitVec.ofNat 8 (0xD0 + n)) 0x12) =
      [.set_2_b, .set_2_c, .set_2_d, .set_2_e,
        .set_2_h, .set_2_l, .set_2_atHl, .set_2_a,
        .set_3_b, .set_3_c, .set_3_d, .set_3_e,
        .set_3_h, .set_3_l, .set_3_atHl, .set_3_a] := by decide +kernel

theorem test_decode_cb_row_E :
    (List.range 16).map (fun n => decodeBytes 0xCB (BitVec.ofNat 8 (0xE0 + n)) 0x12) =
      [.set_4_b, .set_4_c, .set_4_d, .set_4_e,
        .set_4_h, .set_4_l, .set_4_atHl, .set_4_a,
        .set_5_b, .set_5_c, .set_5_d, .set_5_e,
        .set_5_h, .set_5_l, .set_5_atHl, .set_5_a] := by decide +kernel

theorem test_decode_cb_row_F :
    (List.range 16).map (fun n => decodeBytes 0xCB (BitVec.ofNat 8 (0xF0 + n)) 0x12) =
      [.set_6_b, .set_6_c, .set_6_d, .set_6_e,
        .set_6_h, .set_6_l, .set_6_atHl, .set_6_a,
        .set_7_b, .set_7_c, .set_7_d, .set_7_e,
        .set_7_h, .set_7_l, .set_7_atHl, .set_7_a] := by decide +kernel

/-- A byte string that ends inside an instruction is rejected by name. -/
theorem test_decode_truncated :
    decode [0x01, 0x34] = .error (.truncated 0x01) ∧ decode [0xCB] = .error (.truncated 0xCB) ∧
      decode [] = .error .noBytes := by
  decide +kernel

/-- The host's words: a base row is its opcode byte, a CB row has its first byte in the high half (R111). -/
theorem test_decodeTableWord :
    decodeTableWord 8 0x00 = some .nop ∧ decodeTableWord 8 0x01 = some (.ld_bc_d16 0) ∧
      decodeTableWord 16 0xCB37 = some .swap_a ∧ decodeTableWord 8 0xD3 = some .undefined_d3 := by
  decide +kernel

/-- The placed instruction is the first to run after reset, base page, CB page and undefined. -/
theorem test_withFetchWord :
    seen (step (State.reset.withFetchWord 8 0x3C)) (fun t => (t.cpu.a, t.cpu.pc)) = some (0x02, 0x0101) ∧
      seen (step (State.reset.withFetchWord 16 0xCB37)) (fun t => (t.cpu.a, t.cpu.pc)) = some (0x10, 0x0102) ∧
      seen (step (State.reset.withFetchWord 8 0xFD)) (fun t => t.cpu.pc) = none := by
  decide +kernel

/-! ## Effects: one CPU step each, from the vectors of sections 2 and 3 -/

/-- V-L1: LD B,C. -/
theorem test_L1 :
    seen (cpuStep { lab [0x41] [] with cpu.c := 0x5A })
        (fun t => (t.cpu.b, t.cpu.c, t.cpu.pc, t.cpu.cycles)) =
      some (0x5A, 0x5A, 0xC001, 4) := by decide +kernel

/-- V-L3: LD (HL),B. -/
theorem test_L3 :
    seen (cpuStep { lab [0x70] [] with cpu.h := 0xC1, cpu.l := 0x00, cpu.b := 0x42 })
        (fun t => (byteAt 0xC100 t, t.cpu.cycles)) =
      some (some 0x42, 8) := by decide +kernel

/-- V-L4: LD E,d8. -/
theorem test_L4 :
    seen (cpuStep (lab [0x1E, 0x80] []))
        (fun t => (t.cpu.e, t.cpu.pc, t.cpu.cycles)) =
      some (0x80, 0xC002, 8) := by decide +kernel

/-- V-L5: LD (HL),d8. -/
theorem test_L5 :
    seen (cpuStep { lab [0x36, 0x77] [] with cpu.h := 0xC1, cpu.l := 0x00 })
        (fun t => (t.cpu.pc, byteAt 0xC100 t, t.cpu.cycles)) =
      some (0xC002, some 0x77, 12) := by decide +kernel

/-- V-L7: LD (BC),A. -/
theorem test_L7 :
    seen (cpuStep { lab [0x02] [] with cpu.b := 0xC1, cpu.c := 0x00, cpu.a := 0x11 })
        (fun t => (byteAt 0xC100 t, t.cpu.cycles)) =
      some (some 0x11, 8) := by decide +kernel

/-- V-L8: LD A,(HL+). -/
theorem test_L8 :
    seen (cpuStep { lab [0x2A] [(0xC1FF, 0x01)] with cpu.h := 0xC1, cpu.l := 0xFF })
        (fun t => (t.cpu.a, readPair .hl t, t.cpu.cycles)) =
      some (0x01, 0xC200, 8) := by decide +kernel

/-- V-L9: LD A,(HL-) at HL=C100. -/
theorem test_L9 :
    seen (cpuStep { lab [0x3A] [(0xC100, 0x02)] with cpu.h := 0xC1, cpu.l := 0x00 })
        (fun t => (t.cpu.a, readPair .hl t, t.cpu.cycles)) =
      some (0x02, 0xC0FF, 8) := by decide +kernel

/-- V-L10: LD (HL+),A wraps HL. -/
theorem test_L10 :
    seen (cpuStep { lab [0x22] [] with cpu.h := 0xFF, cpu.l := 0xFF, cpu.a := 0x1F })
        (fun t => (readPair .hl t, t.irq.ie, t.cpu.cycles)) =
      some (0x0000, 0x1F, 8) := by decide +kernel

/-- V-L12: LD A,(a16). -/
theorem test_L12 :
    seen (cpuStep (lab [0xFA, 0x00, 0xC1] [(0xC100, 0x5E)]))
        (fun t => (t.cpu.a, t.cpu.pc, t.cpu.cycles)) =
      some (0x5E, 0xC003, 16) := by decide +kernel

/-- V-L13: LD (a16),A. -/
theorem test_L13 :
    seen (cpuStep { lab [0xEA, 0x34, 0xC1] [] with cpu.a := 0x66 })
        (fun t => (t.cpu.pc, byteAt 0xC134 t, t.cpu.cycles)) =
      some (0xC003, some 0x66, 16) := by decide +kernel

/-- V-L14: LDH A,(a8) reads LY. -/
theorem test_L14 :
    seen (cpuStep (lab [0xF0, 0x44] []))
        (fun t => (t.cpu.a, t.cpu.cycles)) =
      some (0x00, 12) := by decide +kernel

/-- V-L15: LDH A,(a8) reads STAT at reset. -/
theorem test_L15 :
    seen (cpuStep (lab [0xF0, 0x41] []))
        (fun t => (t.cpu.a, t.cpu.cycles)) =
      some (0x86, 12) := by decide +kernel

/-- V-L16: LDH (a8),A writes IF. -/
theorem test_L16 :
    seen (cpuStep { lab [0xE0, 0x0F] [] with cpu.a := 0xFF })
        (fun t => (byteAt 0xFF0F t, t.cpu.cycles)) =
      some (some 0xFF, 12) := by decide +kernel

/-- V-L17: LD A,(C) reads IF. -/
theorem test_L17 :
    seen (cpuStep { lab [0xF2] [] with cpu.c := 0x0F })
        (fun t => (t.cpu.a, t.cpu.cycles)) =
      some (0xE1, 8) := by decide +kernel

/-- V-L18: LD (C),A to HRAM. -/
theorem test_L18 :
    seen (cpuStep { lab [0xE2] [] with cpu.c := 0x80, cpu.a := 0x12 })
        (fun t => (byteAt 0xFF80 t, t.cpu.cycles)) =
      some (some 0x12, 8) := by decide +kernel

/-- V-L19: LD HL,d16. -/
theorem test_L19 :
    seen (cpuStep (lab [0x21, 0x34, 0x12] []))
        (fun t => (readPair .hl t, t.cpu.pc, t.cpu.cycles)) =
      some (0x1234, 0xC003, 12) := by decide +kernel

/-- V-L20: LD (a16),SP. -/
theorem test_L20 :
    seen (cpuStep { lab [0x08, 0x00, 0xC1] [] with cpu.sp := 0xABCD })
        (fun t => (t.cpu.pc, byteAt 0xC100 t, byteAt 0xC101 t, t.cpu.cycles)) =
      some (0xC003, some 0xCD, some 0xAB, 20) := by decide +kernel

/-- V-L21: LD SP,HL. -/
theorem test_L21 :
    seen (cpuStep { lab [0xF9] [] with cpu.h := 0xD0, cpu.l := 0x00 })
        (fun t => (t.cpu.sp, t.cpu.cycles)) =
      some (0xD000, 8) := by decide +kernel

/-- V-L22: PUSH BC. -/
theorem test_L22 :
    seen (cpuStep { lab [0xC5] [] with cpu.b := 0x12, cpu.c := 0x34 })
        (fun t => (t.cpu.sp, byteAt 0xFFFD t, byteAt 0xFFFC t, t.cpu.cycles)) =
      some (0xFFFC, some 0x12, some 0x34, 16) := by decide +kernel

/-- V-L23: POP DE. -/
theorem test_L23 :
    seen (cpuStep { lab [0xD1] [(0xC100, 0x78), (0xC101, 0x56)] with cpu.sp := 0xC100 })
        (fun t => (readPair .de t, t.cpu.sp, t.cpu.cycles)) =
      some (0x5678, 0xC102, 12) := by decide +kernel

/-- V-L24: POP AF masks F. -/
theorem test_L24 :
    seen (cpuStep { lab [0xF1] [(0xC100, 0xFF), (0xC101, 0x12)] with cpu.sp := 0xC100 })
        (fun t => (t.cpu.a, t.cpu.f, t.cpu.sp, t.cpu.cycles)) =
      some (0x12, 0xF0, 0xC102, 12) := by decide +kernel

/-- V-L25: POP AF, doc_literal. -/
theorem test_L25 :
    seen (cpuStep { lab [0xF1] [(0xC100, 0xFF), (0xC101, 0x12)] with cpu.sp := 0xC100, env.cfg.timing := .docLiteral })
        (fun t => (t.cpu.a, t.cpu.f, t.cpu.cycles)) =
      some (0x12, 0xF0, 16) := by decide +kernel

/-- V-L27: LD H,(HL) uses old HL. -/
theorem test_L27 :
    seen (cpuStep { lab [0x66] [(0xC100, 0xD0)] with cpu.h := 0xC1, cpu.l := 0x00 })
        (fun t => (t.cpu.h, t.cpu.l, t.cpu.cycles)) =
      some (0xD0, 0x00, 8) := by decide +kernel

/-- V-A1: ADD A,B to zero. -/
theorem test_A1 :
    seen (cpuStep { lab [0x80] [] with cpu.a := 0x3A, cpu.b := 0xC6 })
        (fun t => (t.cpu.a, t.cpu.f, t.cpu.cycles)) =
      some (0x00, 0xB0, 4) := by decide +kernel

/-- V-A3: ADD A,(HL). -/
theorem test_A3 :
    seen (cpuStep { lab [0x86] [(0xC100, 0xFF)] with cpu.a := 0x3C, cpu.h := 0xC1, cpu.l := 0x00, cpu.f := 0x00 })
        (fun t => (t.cpu.a, t.cpu.f, t.cpu.cycles)) =
      some (0x3B, 0x30, 8) := by decide +kernel

/-- V-A4: ADC A,E with carry. -/
theorem test_A4 :
    seen (cpuStep { lab [0x8B] [] with cpu.a := 0xE1, cpu.e := 0x0F, cpu.f := 0x10 })
        (fun t => (t.cpu.a, t.cpu.f, t.cpu.cycles)) =
      some (0xF1, 0x20, 4) := by decide +kernel

/-- V-A6: ADC A,A 80+80+1. -/
theorem test_A6 :
    seen (cpuStep { lab [0x8F] [] with cpu.a := 0x80, cpu.f := 0x10 })
        (fun t => (t.cpu.a, t.cpu.f, t.cpu.cycles)) =
      some (0x01, 0x10, 4) := by decide +kernel

/-- V-A7: SUB E. -/
theorem test_A7 :
    seen (cpuStep { lab [0x93] [] with cpu.a := 0x3E, cpu.e := 0x3E })
        (fun t => (t.cpu.a, t.cpu.f, t.cpu.cycles)) =
      some (0x00, 0xC0, 4) := by decide +kernel

/-- V-A9: SUB d8 borrow. -/
theorem test_A9 :
    seen (cpuStep { lab [0xD6, 0x40] [] with cpu.a := 0x3E })
        (fun t => (t.cpu.a, t.cpu.f, t.cpu.cycles)) =
      some (0xFE, 0x50, 8) := by decide +kernel

/-- V-A10: SBC A,H with carry. -/
theorem test_A10 :
    seen (cpuStep { lab [0x9C] [] with cpu.a := 0x3B, cpu.h := 0x2A, cpu.f := 0x10 })
        (fun t => (t.cpu.a, t.cpu.f, t.cpu.cycles)) =
      some (0x10, 0x40, 4) := by decide +kernel

/-- V-A11: SBC A,d8 00-00-1. -/
theorem test_A11 :
    seen (cpuStep { lab [0xDE, 0x00] [] with cpu.a := 0x00, cpu.f := 0x10 })
        (fun t => (t.cpu.a, t.cpu.f, t.cpu.cycles)) =
      some (0xFF, 0x70, 8) := by decide +kernel

/-- V-A12: AND L. -/
theorem test_A12 :
    seen (cpuStep { lab [0xA5] [] with cpu.a := 0x5A, cpu.l := 0x3F, cpu.f := 0x00 })
        (fun t => (t.cpu.a, t.cpu.f, t.cpu.cycles)) =
      some (0x1A, 0x20, 4) := by decide +kernel

/-- V-A14: XOR A. -/
theorem test_A14 :
    seen (cpuStep { lab [0xAF] [] with cpu.a := 0xFF, cpu.f := 0x70 })
        (fun t => (t.cpu.a, t.cpu.f, t.cpu.cycles)) =
      some (0x00, 0x80, 4) := by decide +kernel

/-- V-A15: OR (HL). -/
theorem test_A15 :
    seen (cpuStep { lab [0xB6] [(0xC100, 0x0F)] with cpu.a := 0x5A, cpu.h := 0xC1, cpu.l := 0x00, cpu.f := 0xF0 })
        (fun t => (t.cpu.a, t.cpu.f, t.cpu.cycles)) =
      some (0x5F, 0x00, 8) := by decide +kernel

/-- V-A17: CP d8 greater operand. -/
theorem test_A17 :
    seen (cpuStep { lab [0xFE, 0x40] [] with cpu.a := 0x3C })
        (fun t => (t.cpu.a, t.cpu.f, t.cpu.cycles)) =
      some (0x3C, 0x50, 8) := by decide +kernel

/-- V-A20: INC B from 0F, C kept. -/
theorem test_A20 :
    seen (cpuStep { lab [0x04] [] with cpu.b := 0x0F, cpu.f := 0x10 })
        (fun t => (t.cpu.b, t.cpu.f, t.cpu.cycles)) =
      some (0x10, 0x30, 4) := by decide +kernel

/-- V-A21: INC (HL). -/
theorem test_A21 :
    seen (cpuStep { lab [0x34] [(0xC100, 0x50)] with cpu.h := 0xC1, cpu.l := 0x00, cpu.f := 0x00 })
        (fun t => (t.cpu.f, byteAt 0xC100 t, t.cpu.cycles)) =
      some (0x00, some 0x51, 12) := by decide +kernel

/-- V-A22: DEC C from 01. -/
theorem test_A22 :
    seen (cpuStep { lab [0x0D] [] with cpu.c := 0x01, cpu.f := 0x10 })
        (fun t => (t.cpu.c, t.cpu.f, t.cpu.cycles)) =
      some (0x00, 0xD0, 4) := by decide +kernel

/-- V-A24: DEC (HL) half borrow. -/
theorem test_A24 :
    seen (cpuStep { lab [0x35] [(0xC100, 0x10)] with cpu.h := 0xC1, cpu.l := 0x00, cpu.f := 0x00 })
        (fun t => (t.cpu.f, byteAt 0xC100 t, t.cpu.cycles)) =
      some (0x60, some 0x0F, 12) := by decide +kernel

/-- V-A28: DAA on 9A, N=0. -/
theorem test_A28 :
    seen (cpuStep { lab [0x27] [] with cpu.a := 0x9A, cpu.f := 0x00 })
        (fun t => (t.cpu.a, t.cpu.f, t.cpu.cycles)) =
      some (0x00, 0x90, 4) := by decide +kernel

/-- V-A29: DAA, N=1 H=1 C=1 on 00. -/
theorem test_A29 :
    seen (cpuStep { lab [0x27] [] with cpu.a := 0x00, cpu.f := 0x70 })
        (fun t => (t.cpu.a, t.cpu.f, t.cpu.cycles)) =
      some (0x9A, 0x50, 4) := by decide +kernel

/-- V-A30: CPL. -/
theorem test_A30 :
    seen (cpuStep { lab [0x2F] [] with cpu.a := 0x35, cpu.f := 0x90 })
        (fun t => (t.cpu.a, t.cpu.f, t.cpu.cycles)) =
      some (0xCA, 0xF0, 4) := by decide +kernel

/-- V-A31: SCF. -/
theorem test_A31 :
    seen (cpuStep { lab [0x37] [] with cpu.f := 0xE0 })
        (fun t => (t.cpu.f, t.cpu.cycles)) =
      some (0x90, 4) := by decide +kernel

/-- V-A32: CCF with C=1. -/
theorem test_A32 :
    seen (cpuStep { lab [0x3F] [] with cpu.f := 0xF0 })
        (fun t => (t.cpu.f, t.cpu.cycles)) =
      some (0x80, 4) := by decide +kernel

/-- V-W1: INC BC wraps, no flags. -/
theorem test_W1 :
    seen (cpuStep { lab [0x03] [] with cpu.b := 0xFF, cpu.c := 0xFF, cpu.f := 0x00 })
        (fun t => (readPair .bc t, t.cpu.f, t.cpu.cycles)) =
      some (0x0000, 0x00, 8) := by decide +kernel

/-- V-W2: DEC SP. -/
theorem test_W2 :
    seen (cpuStep { lab [0x3B] [] with cpu.sp := 0x0000 })
        (fun t => (t.cpu.sp, t.cpu.cycles)) =
      some (0xFFFF, 8) := by decide +kernel

/-- V-W3: ADD HL,DE bit-11 carry. -/
theorem test_W3 :
    seen (cpuStep { lab [0x19] [] with cpu.h := 0x0F, cpu.l := 0xFF, cpu.d := 0x00, cpu.e := 0x01, cpu.f := 0x80 })
        (fun t => (readPair .hl t, t.cpu.f, t.cpu.cycles)) =
      some (0x1000, 0xA0, 8) := by decide +kernel

/-- V-W5: ADD HL,SP. -/
theorem test_W5 :
    seen (cpuStep { lab [0x39] [] with cpu.h := 0x12, cpu.l := 0x34, cpu.sp := 0xFFFE, cpu.f := 0x00 })
        (fun t => (readPair .hl t, t.cpu.f, t.cpu.cycles)) =
      some (0x1232, 0x30, 8) := by decide +kernel

/-- V-W6: ADD SP,+8. -/
theorem test_W6 :
    seen (cpuStep { lab [0xE8, 0x08] [] with cpu.sp := 0xFFF8 })
        (fun t => (t.cpu.sp, t.cpu.f, t.cpu.cycles)) =
      some (0x0000, 0x30, 16) := by decide +kernel

/-- V-W8: ADD SP,-1 from 0001. -/
theorem test_W8 :
    seen (cpuStep { lab [0xE8, 0xFF] [] with cpu.sp := 0x0001 })
        (fun t => (t.cpu.sp, t.cpu.f, t.cpu.cycles)) =
      some (0x0000, 0x30, 16) := by decide +kernel

/-- V-W10: LD HL,SP-1 from 000F. -/
theorem test_W10 :
    seen (cpuStep { lab [0xF8, 0xFF] [] with cpu.sp := 0x000F })
        (fun t => (readPair .hl t, t.cpu.f, t.cpu.cycles)) =
      some (0x000E, 0x30, 12) := by decide +kernel

/-- V-R1: RLCA. -/
theorem test_R1 :
    seen (cpuStep { lab [0x07] [] with cpu.a := 0x85, cpu.f := 0x00 })
        (fun t => (t.cpu.a, t.cpu.f, t.cpu.cycles)) =
      some (0x0B, 0x10, 4) := by decide +kernel

/-- V-R2: RLCA of 00 keeps Z=0. -/
theorem test_R2 :
    seen (cpuStep { lab [0x07] [] with cpu.a := 0x00, cpu.f := 0x80 })
        (fun t => (t.cpu.a, t.cpu.f, t.cpu.cycles)) =
      some (0x00, 0x00, 4) := by decide +kernel

/-- V-R3: RRCA. -/
theorem test_R3 :
    seen (cpuStep { lab [0x0F] [] with cpu.a := 0x01, cpu.f := 0x00 })
        (fun t => (t.cpu.a, t.cpu.f, t.cpu.cycles)) =
      some (0x80, 0x10, 4) := by decide +kernel

/-- V-R4: RLA with C=1. -/
theorem test_R4 :
    seen (cpuStep { lab [0x17] [] with cpu.a := 0x95, cpu.f := 0x10 })
        (fun t => (t.cpu.a, t.cpu.f, t.cpu.cycles)) =
      some (0x2B, 0x10, 4) := by decide +kernel

/-- V-R5: RRA with C=0. -/
theorem test_R5 :
    seen (cpuStep { lab [0x1F] [] with cpu.a := 0x81, cpu.f := 0x00 })
        (fun t => (t.cpu.a, t.cpu.f, t.cpu.cycles)) =
      some (0x40, 0x10, 4) := by decide +kernel

/-- V-R7: RLC (HL). -/
theorem test_R7 :
    seen (cpuStep { lab [0xCB, 0x06] [(0xC100, 0x00)] with cpu.h := 0xC1, cpu.l := 0x00, cpu.f := 0x00 })
        (fun t => (t.cpu.f, byteAt 0xC100 t, t.cpu.cycles)) =
      some (0x80, some 0x00, 16) := by decide +kernel

/-- V-R8: RRC C. -/
theorem test_R8 :
    seen (cpuStep { lab [0xCB, 0x09] [] with cpu.c := 0x01, cpu.f := 0x00 })
        (fun t => (t.cpu.c, t.cpu.f, t.cpu.cycles)) =
      some (0x80, 0x10, 8) := by decide +kernel

/-- V-R9: RL D, C=0, result 0. -/
theorem test_R9 :
    seen (cpuStep { lab [0xCB, 0x12] [] with cpu.d := 0x80, cpu.f := 0x00 })
        (fun t => (t.cpu.d, t.cpu.f, t.cpu.cycles)) =
      some (0x00, 0x90, 8) := by decide +kernel

/-- V-R10: RR E with C=1. -/
theorem test_R10 :
    seen (cpuStep { lab [0xCB, 0x1B] [] with cpu.e := 0x01, cpu.f := 0x10 })
        (fun t => (t.cpu.e, t.cpu.f, t.cpu.cycles)) =
      some (0x80, 0x10, 8) := by decide +kernel

/-- V-R11: SLA H. -/
theorem test_R11 :
    seen (cpuStep { lab [0xCB, 0x24] [] with cpu.h := 0xC1, cpu.f := 0x00 })
        (fun t => (t.cpu.h, t.cpu.f, t.cpu.cycles)) =
      some (0x82, 0x10, 8) := by decide +kernel

/-- V-R12: SRA L keeps bit 7. -/
theorem test_R12 :
    seen (cpuStep { lab [0xCB, 0x2D] [] with cpu.l := 0x81, cpu.f := 0x00 })
        (fun t => (t.cpu.l, t.cpu.f, t.cpu.cycles)) =
      some (0xC0, 0x10, 8) := by decide +kernel

/-- V-R13: SRL A. -/
theorem test_R13 :
    seen (cpuStep { lab [0xCB, 0x3F] [] with cpu.a := 0x01, cpu.f := 0x00 })
        (fun t => (t.cpu.a, t.cpu.f, t.cpu.cycles)) =
      some (0x00, 0x90, 8) := by decide +kernel

/-- V-R14: SWAP A. -/
theorem test_R14 :
    seen (cpuStep { lab [0xCB, 0x37] [] with cpu.a := 0xF1, cpu.f := 0x70 })
        (fun t => (t.cpu.a, t.cpu.f, t.cpu.cycles)) =
      some (0x1F, 0x00, 8) := by decide +kernel

/-- V-R17: BIT 7,B with B=80 (source §8). -/
theorem test_R17 :
    seen (cpuStep { lab [0xCB, 0x78] [] with cpu.b := 0x80, cpu.f := 0x40 })
        (fun t => (t.cpu.b, t.cpu.f, t.cpu.cycles)) =
      some (0x80, 0x20, 8) := by decide +kernel

/-- V-R18: BIT 0,(HL). -/
theorem test_R18 :
    seen (cpuStep { lab [0xCB, 0x46] [(0xC100, 0xFE)] with cpu.h := 0xC1, cpu.l := 0x00, cpu.f := 0x00 })
        (fun t => (t.cpu.f, t.cpu.cycles)) =
      some (0xA0, 12) := by decide +kernel

/-- V-R19: RES 0,A. -/
theorem test_R19 :
    seen (cpuStep { lab [0xCB, 0x87] [] with cpu.a := 0xFF, cpu.f := 0xF0 })
        (fun t => (t.cpu.a, t.cpu.f, t.cpu.cycles)) =
      some (0xFE, 0xF0, 8) := by decide +kernel

/-- V-R20: RES 7,(HL). -/
theorem test_R20 :
    seen (cpuStep { lab [0xCB, 0xBE] [(0xC100, 0xFF)] with cpu.h := 0xC1, cpu.l := 0x00 })
        (fun t => (byteAt 0xC100 t, t.cpu.cycles)) =
      some (some 0x7F, 16) := by decide +kernel

/-- V-R22: SET 7,(HL). -/
theorem test_R22 :
    seen (cpuStep { lab [0xCB, 0xFE] [(0xC100, 0x01)] with cpu.h := 0xC1, cpu.l := 0x00 })
        (fun t => (byteAt 0xC100 t, t.cpu.cycles)) =
      some (some 0x81, 16) := by decide +kernel

/-- V-C1: JP a16. -/
theorem test_C1 :
    seen (cpuStep (lab [0xC3, 0x00, 0xD0] []))
        (fun t => (t.cpu.pc, t.cpu.cycles)) =
      some (0xD000, 16) := by decide +kernel

/-- V-C2: JP NZ taken. -/
theorem test_C2 :
    seen (cpuStep { lab [0xC2, 0x00, 0xD0] [] with cpu.f := 0x00 })
        (fun t => (t.cpu.pc, t.cpu.cycles)) =
      some (0xD000, 16) := by decide +kernel

/-- V-C4: JP Z taken, doc_literal. -/
theorem test_C4 :
    seen (cpuStep { lab [0xCA, 0x00, 0xD0] [] with cpu.f := 0x80, env.cfg.timing := .docLiteral })
        (fun t => (t.cpu.pc, t.cpu.cycles)) =
      some (0xD000, 24) := by decide +kernel

/-- V-C5: JP C not taken. -/
theorem test_C5 :
    seen (cpuStep { lab [0xDA, 0x00, 0xD0] [] with cpu.f := 0x00 })
        (fun t => (t.cpu.pc, t.cpu.cycles)) =
      some (0xC003, 12) := by decide +kernel

/-- V-C7: JP HL. -/
theorem test_C7 :
    seen (cpuStep { lab [0xE9] [] with cpu.h := 0xD1, cpu.l := 0x23 })
        (fun t => (t.cpu.pc, t.cpu.cycles)) =
      some (0xD123, 4) := by decide +kernel

/-- V-C9: JR -2 (to itself). -/
theorem test_C9 :
    seen (cpuStep (lab [0x18, 0xFE] []))
        (fun t => (t.cpu.pc, t.cpu.cycles)) =
      some (0xC000, 12) := by decide +kernel

/-- V-C10: JR NZ,-5 taken. -/
theorem test_C10 :
    seen (cpuStep { lab [0x20, 0xFB] [] with cpu.f := 0x00 })
        (fun t => (t.cpu.pc, t.cpu.cycles)) =
      some (0xBFFD, 12) := by decide +kernel

/-- V-C11: JR NZ,-5 not taken. -/
theorem test_C11 :
    seen (cpuStep { lab [0x20, 0xFB] [] with cpu.f := 0x80 })
        (fun t => (t.cpu.pc, t.cpu.cycles)) =
      some (0xC002, 8) := by decide +kernel

/-- V-C13: JR NC,-128 not taken. -/
theorem test_C13 :
    seen (cpuStep { lab [0x30, 0x80] [] with cpu.f := 0x10 })
        (fun t => (t.cpu.pc, t.cpu.cycles)) =
      some (0xC002, 8) := by decide +kernel

/-- V-C14: CALL a16. -/
theorem test_C14 :
    seen (cpuStep (lab [0xCD, 0x00, 0xD0] []))
        (fun t => (t.cpu.pc, t.cpu.sp, byteAt 0xFFFD t, byteAt 0xFFFC t, t.cpu.cycles)) =
      some (0xD000, 0xFFFC, some 0xC0, some 0x03, 24) := by decide +kernel

/-- V-C15: CALL NZ not taken. -/
theorem test_C15 :
    seen (cpuStep { lab [0xC4, 0x00, 0xD0] [] with cpu.f := 0x80 })
        (fun t => (t.cpu.pc, t.cpu.sp, t.cpu.cycles)) =
      some (0xC003, 0xFFFE, 12) := by decide +kernel

/-- V-C17: RET. -/
theorem test_C17 :
    seen (cpuStep { lab [0xC9] [(0xC100, 0x03), (0xC101, 0xC0)] with cpu.sp := 0xC100 })
        (fun t => (t.cpu.pc, t.cpu.sp, t.cpu.cycles)) =
      some (0xC003, 0xC102, 16) := by decide +kernel

/-- V-C18: RET Z taken. -/
theorem test_C18 :
    seen (cpuStep { lab [0xC8] [(0xC100, 0x34), (0xC101, 0x12)] with cpu.sp := 0xC100, cpu.f := 0x80 })
        (fun t => (t.cpu.pc, t.cpu.sp, t.cpu.cycles)) =
      some (0x1234, 0xC102, 20) := by decide +kernel

/-- V-C19: RET NZ not taken. -/
theorem test_C19 :
    seen (cpuStep { lab [0xC0] [] with cpu.sp := 0xC100, cpu.f := 0x80 })
        (fun t => (t.cpu.pc, t.cpu.sp, t.cpu.cycles)) =
      some (0xC001, 0xC100, 8) := by decide +kernel

/-- V-C21: RETI. -/
theorem test_C21 :
    seen (cpuStep { lab [0xD9] [(0xC100, 0x34), (0xC101, 0x12)] with cpu.sp := 0xC100, cpu.ime := false })
        (fun t => (t.cpu.pc, t.cpu.sp, t.cpu.ime, t.cpu.cycles)) =
      some (0x1234, 0xC102, true, 16) := by decide +kernel

/-- V-C22: RST 38H. -/
theorem test_C22 :
    seen (cpuStep (lab [0xFF] []))
        (fun t => (t.cpu.pc, t.cpu.sp, byteAt 0xFFFD t, byteAt 0xFFFC t, t.cpu.cycles)) =
      some (0x0038, 0xFFFC, some 0xC0, some 0x01, 16) := by decide +kernel

/-- V-S2: HALT, nothing enabled. -/
theorem test_S2 :
    seen (cpuStep { lab [0x76] [] with irq.ie := 0x00 })
        (fun t => (t.cpu.pc, t.cpu.halted, t.cpu.cycles)) =
      some (0xC001, true, 4) := by decide +kernel

/-- V-S6: HALT, IME=1, pending: dispatch in HALT step. -/
theorem test_S6 :
    seen (cpuStep { lab [0x76] [] with irq.ie := 0x01, irq.ifr := 0x1, cpu.ime := true })
        (fun t => ((t.cpu.pc, t.cpu.sp, t.cpu.ime, t.cpu.halted),
          (byteAt 0xFF0F t, byteAt 0xFFFD t, byteAt 0xFFFC t, t.cpu.cycles))) =
      some ((0x0040, 0xFFFC, false, false), (some 0xE0, some 0xC0, some 0x01, 24)) := by decide +kernel

/-- V-S9: DI with pending. -/
theorem test_S9 :
    seen (cpuStep { lab [0xF3] [] with cpu.ime := true, irq.ie := 0x01, irq.ifr := 0x0 })
        (fun t => (t.cpu.ime, t.cpu.cycles)) =
      some (false, 4) := by decide +kernel

/-- V-S10: EI, 1 step. -/
theorem test_S10 :
    seen (cpuStep { lab [0xFB, 0x00] [] with irq.ie := 0x01, irq.ifr := 0x1 })
        (fun t => (t.cpu.pc, t.cpu.ime, t.cpu.eiDelay, t.cpu.cycles)) =
      some (0xC001, false, 1, 4) := by decide +kernel

/-- V-I1: priority: IE=IF=03, IME=1, NOP. -/
theorem test_I1 :
    seen (cpuStep { lab [0x00] [] with irq.ie := 0x03, irq.ifr := 0x3, cpu.ime := true })
        (fun t => ((t.cpu.pc, t.cpu.sp, t.cpu.ime, byteAt 0xFF0F t),
          (byteAt 0xFFFD t, byteAt 0xFFFC t, t.cpu.cycles))) =
      some ((0x0040, 0xFFFC, false, some 0xE2), (some 0xC0, some 0x01, 24)) := by decide +kernel

/-- V-I2: only enabled bits count: IE=04, IF=05. -/
theorem test_I2 :
    seen (cpuStep { lab [0x00] [] with irq.ie := 0x04, irq.ifr := 0x5, cpu.ime := true })
        (fun t => (t.cpu.pc, byteAt 0xFF0F t, t.cpu.cycles)) =
      some (0x0050, some 0xE1, 24) := by decide +kernel

/-- V-I3: IE bits 7:5 do not dispatch. -/
theorem test_I3 :
    seen (cpuStep { lab [0x00] [] with irq.ie := 0xE0, irq.ifr := 0x1F, cpu.ime := true })
        (fun t => (t.cpu.pc, byteAt 0xFF0F t, t.cpu.cycles)) =
      some (0xC001, some 0xFF, 4) := by decide +kernel

/-- V-I4: input vector. -/
theorem test_I4 :
    seen (cpuStep { lab [0x00] [] with irq.ie := 0x10, irq.ifr := 0x10, cpu.ime := true })
        (fun t => (t.cpu.pc, byteAt 0xFF0F t, t.cpu.cycles)) =
      some (0x0060, some 0xE0, 24) := by decide +kernel

/-- V-I5: write IE in the step, dispatch same step. -/
theorem test_I5 :
    seen (cpuStep { lab [0xE0, 0xFF] [] with cpu.a := 0x01, irq.ifr := 0x1, cpu.ime := true })
        (fun t => (t.cpu.pc, byteAt 0xFF0F t, t.cpu.cycles)) =
      some (0x0040, some 0xE0, 32) := by decide +kernel

/-- V-I6: CALL then dispatch pushes return of CALL target. -/
theorem test_I6 :
    seen (cpuStep { lab [0xCD, 0x00, 0xD0] [] with irq.ie := 0x01, irq.ifr := 0x1, cpu.ime := true })
        (fun t => (t.cpu.pc, t.cpu.sp, byteAt 0xFFFB t, byteAt 0xFFFA t, t.cpu.cycles)) =
      some (0x0040, 0xFFFA, some 0xD0, some 0x00, 44) := by decide +kernel

/-- V-M2: PUSH with SP=0001 wraps into IE. -/
theorem test_M2 :
    seen (cpuStep { lab [0xC5] [] with cpu.sp := 0x0001, cpu.b := 0x12, cpu.c := 0x34 })
        (fun t => (t.cpu.sp, t.irq.ie, t.cpu.cycles)) =
      some (0xFFFF, 0x34, 16) := by decide +kernel

/-- V-M3: LD A,(HL) from OAM. -/
theorem test_M3 :
    seen (cpuStep { lab [0x7E] [(0xFE9F, 0x77)] with cpu.h := 0xFE, cpu.l := 0x9F })
        (fun t => (t.cpu.a, t.cpu.cycles)) =
      some (0x77, 8) := by decide +kernel

/-! ## Faults, reset reads, HALT bug, STOP -/

/-- V-S14, and the fault of `95_test_vectors.md` V-S15. -/
theorem test_S14 :
    cpuStep (lab [0xD3] []) = .fault (.invalidOpcode 0xC000 0xD3) ∧
      cpuStep (lab [0xFD] []) = .fault (.invalidOpcode 0xC000 0xFD) := ⟨rfl, rfl⟩

/-- R48: what STAT and IF read as after reset. -/
theorem test_reset_reads : byteAt 0xFF41 State.reset = some 0x86 ∧ byteAt 0xFF0F State.reset = some 0xE1 := by
  decide +kernel

/-- The step after HALT in V-S7: with the latch set the byte 3C is read and PC stays. -/
theorem test_S7_latch :
    seen (cpuStep { lab [0x3C] [] with cpu.a := 0x00, cpu.haltBugLatch := true, env.cfg.haltBug := true })
        (fun t => (t.cpu.a, t.cpu.pc, t.cpu.haltBugLatch)) = some (0x01, 0xC000, false) := by decide +kernel

/-- V-S8: a step of a stopped CPU. -/
theorem test_S8_stopped :
    seen (cpuStep { lab [0x3C] [] with cpu.a := 0x00, cpu.stopped := true })
        (fun t => (t.cpu.a, t.cpu.pc, t.cpu.stopped, t.cpu.cycles)) = some (0x00, 0xC000, true, 4) := by decide +kernel

/-- The second step of V-S4: woken without service. -/
theorem test_S4_wake :
    seen (cpuStep { lab [0x00] [] with irq.ie := 0x01, irq.ifr := 1, cpu.halted := true })
        (fun t => (t.cpu.pc, t.cpu.halted, byteAt 0xFF0F t, t.cpu.cycles)) = some (0xC000, false, some 0xE1, 4) := by
  decide +kernel

/-- R64, R285: an open answer that fetched a faulting opcode has been drawn; a settled byte draws nothing. -/
theorem test_fault_draws :
    (afterFault (.invalidOpcode 0x7FFF 0xD3) { State.reset with cpu.pc := 0x7FFF }).bus.draws = 1 ∧
      (afterFault (.invalidOpcode 0xC000 0xD3) (lab [0xD3] [])).bus.draws = 0 := by decide +kernel

/-! ## The PPU: the last tick of vectors of section 4, and pixels of section 5 -/

/-- A display that runs at a line and dot, with no request. -/
def screen (ly : Byte) (dot : Nat) : State :=
  { State.reset with irq.ifr := 0, ppu.ly := ly, ppu.dot := dot, ppu.mode := modeAt ly dot }

/-- V-P1b, V-P1d, V-P1f: the ticks to dot 80, 252 and 456 of line 0. -/
theorem test_P1 :
    byteAt 0xFF41 (ppuTick (screen 0 79)) = some 0x87 ∧ byteAt 0xFF41 (ppuTick (screen 0 251)) = some 0x84 ∧
      byteAt 0xFF41 (ppuTick (screen 0 455)) = some 0x82 := by decide +kernel

/-- V-P2 and V-P7: the tick to line 144, without and with the mode-1 enable. -/
theorem test_P2_P7 :
    (ppuTick (screen 143 455)).irq.ifr = 1 ∧ (ppuTick (screen 143 455)).ppu.mode = .vblank ∧
      (ppuTick { screen 143 455 with ppu.statEn := 0b0010 }).irq.ifr = 3 := by decide +kernel

/-- V-P3: the frame boundary. -/
theorem test_P3 :
    let t := ppuTick (screen 153 455)
    t.ppu.ly = 0 ∧ t.ppu.mode = .oamScan ∧ t.ppu.frameEvent = 1 := by decide +kernel

/-- V-P4: LY becomes LYC with STAT[6] set. -/
theorem test_P4 :
    let t := ppuTick { screen 1 455 with ppu.lyc := 2, ppu.statEn := 0b1000 }
    t.irq.ifr = 2 ∧ byteAt 0xFF41 t = some 0xC6 := by decide +kernel

/-- V-P5: mode-0 enable. -/
theorem test_P5 :
    let t := ppuTick (memWrite 0xFF41 0x08 (screen 0 251))
    t.irq.ifr = 2 ∧ byteAt 0xFF41 t = some 0x8C := by decide +kernel

/-- V-P8, V-P8b, V-P8c: display off, its frame boundary, and on again. -/
theorem test_P8 :
    byteAt 0xFF41 (ppuTick { screen 2 88 with ppu.lcdc := 0x11 }) = some 0x84 ∧
      (ppuTick { screen 0 0 with ppu.lcdc := 0x11, ppu.lcdRunning := false, ppu.offDots := 70223 }).ppu.frameEvent =
        1 ∧
      (ppuTick { screen 0 0 with ppu.lcdRunning := false, ppu.mode := .hblank }).ppu.dot = 1 := by decide +kernel

/-- V-P9: a write of STAT stores bits 6:3 only. -/
theorem test_P9 : byteAt 0xFF41 (memWrite 0xFF41 0xFF (screen 0 0)) = some 0xFE := by decide +kernel

/-- V-G1 and V-G2: background pixels, unscrolled and scrolled. -/
theorem test_G1_G2 :
    let s := { lab [] [(0x8000, 0x81), (0x8001, 0x41)] with ppu.bgp := 0xE4 }
    (List.range 9).map (pixel 0 [] s) = [1, 2, 0, 0, 0, 0, 0, 3, 1] ∧
      (List.range 8).map (pixel 0 [] { s with ppu.scx := 1 }) = [2, 0, 0, 0, 0, 0, 3, 1] := by decide +kernel

/-- V-G4b: signed tile numbers. -/
theorem test_G4b :
    let s := { lab [] [(0x8801, 0xFF), (0x9000, 0xFF), (0x9800, 0x80)] with ppu.bgp := 0xE4, ppu.lcdc := 0x81 }
    pixel 0 [] s 0 = 2 ∧ pixel 0 [] s 8 = 1 := by decide +kernel

/-- V-G6 and V-G7: a sprite over the background, and mirrored. -/
theorem test_G6_G7 :
    let cells (attr : Byte) := [(0x8010, 0xF0), (0xFE00, 0x10), (0xFE01, 0x08), (0xFE02, 0x01), (0xFE03, attr)]
    let s (attr : Byte) := { lab [] (cells attr) with
      ppu.bgp := 0xE4, ppu.obp0 := 0xE4, ppu.lcdc := 0x93 }
    (List.range 8).map (pixel 0 (selectedSprites 0 (s 0)) (s 0)) = [1, 1, 1, 1, 0, 0, 0, 0] ∧
      (List.range 8).map (pixel 0 (selectedSprites 0 (s 0x20)) (s 0x20)) = [0, 0, 0, 0, 1, 1, 1, 1] := by decide +kernel

/-- V-G9: the priority bit over a background index 1 at column 0. -/
theorem test_G9 :
    let oam := [(0xFE00, 0x10), (0xFE01, 0x08), (0xFE02, 0x01), (0xFE03, 0x80)]
    let s := { lab [] ([(0x8000, 0x80), (0x8010, 0xF0)] ++ oam) with
      ppu.bgp := 0xE4, ppu.obp0 := 0x0C, ppu.lcdc := 0x93 }
    (List.range 5).map (pixel 0 (selectedSprites 0 s) s) = [1, 3, 3, 3, 0] := by decide +kernel

/-- V-G12 and V-G12b: the order of two sprites. -/
theorem test_G12 :
    let p : Sprite := { y := 0x10, x := 0x0C, tile := 1, attr := 0 }
    let q : Sprite := { y := 0x10, x := 0x08, tile := 2, attr := 0 }
    priorityOrder .oamIndex [p, q] = [p, q] ∧ priorityOrder .dmgX [p, q] = [q, p] := by decide +kernel

/-- V-G13: a tall sprite's two tiles. -/
theorem test_G13 :
    let s := { lab [] [(0x8020, 0xFF), (0x8031, 0xFF)] with ppu.lcdc := 0x97 }
    let sp : Sprite := { y := 0x10, x := 0x08, tile := 3, attr := 0 }
    spriteIndex sp 0 0 s = 1 ∧ spriteIndex sp 8 0 s = 2 := by decide +kernel

/-- V-G14: the window from column 80. -/
theorem test_G14 :
    let s := { lab [] [(0x8010, 0xFF), (0x8011, 0xFF), (0x9C00, 0x01)] with
      ppu.bgp := 0xE4, ppu.lcdc := 0xF1, ppu.wx := 87 }
    pixel 0 [] s 79 = 0 ∧ pixel 0 [] s 80 = 3 ∧ (renderLine 0 s).ppu.windowLine = 1 := by decide +kernel

/-! ## Witnesses: for each statement with premises, inputs that meet all of them together -/

/-- DecodeAfterEncode. -/
theorem witness_DecodeAfterEncode : WellFormed .undefined_fd ∧ WellFormed (.ld_bc_d16 0xFFFF) ∧ WellFormed .set_7_a :=
  ⟨rfl, rfl, rfl⟩

/-- EncodeAfterDecode: one, two and three bytes. -/
theorem witness_EncodeAfterDecode :
    decode [0xFF] = .ok (.rst_38, []) ∧ decode [0xCB, 0xFF] = .ok (.set_7_a, []) ∧
      decode [0x01, 0xFF, 0x00, 0x76] = .ok (.ld_bc_d16 0x00FF, [0x76]) := by decide +kernel

/-- StepRunsDecodedInstruction: two bytes in WRAM. -/
theorem witness_StepRunsDecodedInstruction :
    let s := lab [0x06, 0x5A] []
    let i : Instr := .ld_b_d8 0x5A
    (WellFormed i ∧ i ∉ Forms.undefined.map Prod.snd ∧ s.env.moves = [] ∧ s.cpu.stopped = false ∧
      s.cpu.halted = false ∧ s.cpu.haltBugLatch = false) ∧
    ∀ k b, (encode i)[k]? = some b → byteAt (s.cpu.pc + BitVec.ofNat 16 k) s = some b := by
  refine ⟨by decide +kernel, fun k b h => ?_⟩
  match k with
  | 0 => cases h; rfl
  | 1 => cases h; rfl
  | _ + 2 => cases h

/-- An instruction at the top of memory: bytes in HRAM, in IE and at a cartridge address with a promise. -/
def wrapped : State :=
  { lab [] [(0xFFFE, 0x01), (0xFFFF, 0x34)] with cpu.pc := 0xFFFE, bus.ext := [(0, 0x12)] }

/-- StepRunsDecodedInstruction at the top of memory. -/
theorem witness_StepRunsDecodedInstruction_wrap :
    ∀ k b, (encode (.ld_bc_d16 0x1234))[k]? = some b →
      byteAt (wrapped.cpu.pc + BitVec.ofNat 16 k) wrapped = some b := by
  intro k b h
  match k with
  | 0 => cases h; decide +kernel
  | 1 => cases h; decide +kernel
  | 2 => cases h; decide +kernel
  | _ + 3 => cases h

/-- HaltBugRepeatsTheByte. -/
theorem witness_HaltBugRepeatsTheByte :
    let s := { lab [0x3C, 0x00] [] with cpu.haltBugLatch := true, env.cfg.haltBug := true }
    s.env.moves = [] ∧ s.cpu.stopped = false ∧ s.cpu.halted = false ∧ s.cpu.haltBugLatch = true ∧
      byteAt s.cpu.pc s = some 0x3C ∧ byteAt (s.cpu.pc + 1) s = some 0x00 ∧ isIllegal 0x3C = false := by decide +kernel

/-- UndefinedOpcodesStop. -/
theorem witness_UndefinedOpcodesStop :
    let s := lab [0xD3] []
    (0xD3, .undefined_d3) ∈ Forms.undefined ∧ s.env.moves = [] ∧ s.cpu.stopped = false ∧ s.cpu.halted = false ∧
      byteAt s.cpu.pc s = some 0xD3 := by decide +kernel

/-- OnlyUndefinedOpcodesFault: an instruction that is defined, and a step that faults. -/
theorem witness_OnlyUndefinedOpcodesFault :
    Instr.nop ∉ Forms.undefined.map Prod.snd ∧
      step (lab [0xD3] []) = .fault (.invalidOpcode 0xC000 0xD3) := ⟨by decide +kernel, rfl⟩

/-- DriverFaultPolicies: a faulting step under each policy. -/
theorem witness_DriverFaultPolicies :
    step { lab [0xD3] [] with env.cfg.faultPolicy := .skip } = .fault (.invalidOpcode 0xC000 0xD3) ∧
      step { lab [0xD3] [] with env.cfg.faultPolicy := .halt } = .fault (.invalidOpcode 0xC000 0xD3) ∧
      step { lab [0xD3] [] with env.cfg.faultPolicy := .abort } = .fault (.invalidOpcode 0xC000 0xD3) :=
  ⟨rfl, rfl, rfl⟩

/-- A step that completes, from a legal state: ParametersAndLogAreFixed, StepCostRange, StepKeepsTheInvariant,
CpuKeepsPpuTiming. -/
theorem witness_step_completes :
    (∃ t, step (lab [0x00] []) = .next t) ∧ (∃ t, cpuStep (lab [0x00] []) = .next t) :=
  ⟨⟨_, rfl⟩, ⟨_, rfl⟩⟩

/-- The state of the step that completes is legal. -/
theorem witness_StepKeepsTheInvariant : Machine.Inv (lab [0x00] []) := by
  refine ⟨by decide +kernel, ⟨by decide +kernel, by decide +kernel, by decide +kernel, by decide +kernel,
    by decide +kernel, by decide +kernel, by decide +kernel, ?_⟩, by decide +kernel⟩
  intro row h
  exact (List.eq_of_mem_replicate h) ▸ List.length_replicate

/-- StepCostRange: a step that dispatches. -/
theorem witness_StepCostRange_dispatch :
    seen (step { lab [0x00] [] with cpu.ime := true, irq.ie := 1 }) (fun t => (t.cpu.cycles, t.cpu.ime)) =
      some (24, false) := by decide +kernel

/-- An instruction that completes: CycleTables, FlagWriters, ImeWriters, StoresTouchOnlyTheirBytes. -/
theorem witness_exec_completes (s : State) : ∃ t, exec .ld_atHl_b s = .next t := ⟨_, rfl⟩

/-- HostMovesBeforeTheStep: each shape of the schedule. -/
theorem witness_HostMovesBeforeTheStep :
    let s (m : List (List HostMove)) : State := { State.reset with env.moves := m }
    (s [[.raise .timer]]).env.moves = (.raise .timer :: []) :: [] ∧ (s [[]]).env.moves = [] :: [] ∧
      (s []).env.moves = [] := ⟨rfl, rfl, rfl⟩

/-- HaltAndStop: each clause's premises. -/
theorem witness_HaltAndStop :
    let s := lab [] []
    let idle := { s with cpu.halted := true, irq.ie := 0 }
    let asked := { s with cpu.halted := true, irq.ie := 1 }
    (s.cpu.stopped = false ∧ idle.cpu.halted = true ∧ pendingAndEnabled idle = 0) ∧
      (asked.cpu.halted = true ∧ pendingAndEnabled asked ≠ 0 ∧ asked.cpu.ime = false) ∧
      ({ asked with cpu.ime := true }.cpu.ime = true ∧ pendingAndEnabled { asked with cpu.ime := true } ≠ 0) ∧
      { s with cpu.stopped := true }.cpu.stopped = true := by decide +kernel

/-- AddressMap: both ends of every range (R61). -/
theorem witness_AddressMap :
    (route 0x0000 = .ext .cart ∧ route 0x7FFF = .ext .cart ∧ route 0x8000 = .storage 0x8000 ∧
      route 0x9FFF = .storage 0x9FFF ∧ route 0xA000 = .ext .cart ∧ route 0xBFFF = .ext .cart) ∧
    (route 0xC000 = .storage 0xC000 ∧ route 0xDFFF = .storage 0xDFFF ∧ route 0xE000 = .storage 0xC000 ∧
      route 0xFDFF = .storage 0xDDFF ∧ route 0xFE00 = .storage 0xFE00 ∧ route 0xFE9F = .storage 0xFE9F) ∧
    (route 0xFEA0 = .ext .ioExt ∧ route 0xFEFF = .ext .ioExt ∧ route 0xFF00 = .ext .ioExt ∧
      route 0xFF7F = .ext .ioExt ∧ route 0xFF46 = .ext .ioExt ∧ route 0xFF80 = .storage 0xFF80 ∧
      route 0xFFFE = .storage 0xFFFE ∧ route 0xFFFF = .reg .ie) := by decide +kernel

/-- ReadsHaveNoEffect: a settled byte, an open one, a storage address. -/
theorem witness_ReadsHaveNoEffect :
    byteAt 0x8000 State.reset = some 0 ∧ byteAt 0x7FFF State.reset = none ∧ route 0xFFFE = .storage 0xFFFE := by
  decide +kernel

/-- WritesTouchOnlyTheirByte: canonical storage, an echo, a byte not touched, a collaborator. -/
theorem witness_WritesTouchOnlyTheirByte :
    BusInv State.reset ∧ route 0xC000 = .storage 0xC000 ∧ route 0xE000 = .storage 0xC000 ∧
      Forms.touches 0xC000 0xC001 = false ∧ Forms.touches 0xFF44 0xFF45 = false ∧ route 0xFEA0 = .ext .ioExt := by
  decide +kernel

/-- StoresTouchOnlyTheirBytes: a store at 0xC000 completes and does not touch 0xC001. -/
theorem witness_StoresTouchOnlyTheirBytes :
    BusInv State.reset ∧ (∃ t, exec (.ld_atA16_a 0xC000) State.reset = .next t) ∧
      ∀ a ∈ Forms.storesTo (.ld_atA16_a 0xC000) State.reset, Forms.touches a 0xC001 = false := by
  refine ⟨rfl, ⟨_, rfl⟩, fun a h => ?_⟩
  rw [List.mem_singleton.mp (show a ∈ [0xC000#16] from h)]
  decide +kernel

/-- StackPrimitives: two settled bytes, the second in IE. -/
theorem witness_StackPrimitives :
    let s := { lab [] [(0xFFFE, 0x12)] with cpu.sp := 0xFFFE }
    byteAt s.cpu.sp s = some 0x12 ∧ byteAt (s.cpu.sp + 1) s = some 0x00 := by decide +kernel

/-- PushAndPop: POP AF completes. -/
theorem witness_PushAndPop (s : State) : ∃ t, exec .pop_af s = .next t := ⟨_, rfl⟩

/-- DecimalArithmetic: the ends of the range. -/
theorem witness_DecimalArithmetic :
    let s := { lab [] [] with cpu.a := 0x00, cpu.b := 0x99 }
    (0 < 100 ∧ 99 < 100) ∧ s.cpu.a = BitVec.ofNat 8 (16 * (0 / 10) + 0 % 10) ∧
      s.cpu.b = BitVec.ofNat 8 (16 * (99 / 10) + 99 % 10) := by decide +kernel

/-- Calls and Returns: a condition that holds and one that does not. -/
theorem witness_Calls_Returns : condHolds .z State.reset = true ∧ condHolds .nz State.reset = false := by
  decide +kernel

/-- InterruptDispatch: each value of the delay, the check's two cases, and the lowest and the highest source. -/
theorem witness_InterruptDispatch :
    let s := State.reset
    (s.cpu.eiDelay = 0 ∧ { s with cpu.eiDelay := 1 }.cpu.eiDelay = 1 ∧ { s with cpu.eiDelay := 2 }.cpu.eiDelay = 2) ∧
    (s.cpu.ime = false ∧ pendingAndEnabled { s with cpu.ime := true, irq.ie := 1 } ≠ 0) ∧
    (({ s with irq.ie := 0x1F }.irq.ie.getLsbD 0 && s.irq.ifr.getLsbD 0) = true ∧
      (∀ j < 4, ({ s with irq.ie := 0x10, irq.ifr := 0x1F }.irq.ie.getLsbD j &&
        { s with irq.ie := 0x10, irq.ifr := 0x1F }.irq.ifr.getLsbD j) = false) ∧
      ({ s with irq.ie := 0x10, irq.ifr := 0x1F }.irq.ie.getLsbD 4 = true)) := by decide +kernel

/-- DispatchSavesOnlyPc and RetiUndoesDispatch: a pending request and a stack in storage, at the ends of HRAM. -/
theorem witness_DispatchSavesOnlyPc :
    let s (sp : Word) : State := { State.reset with irq.ie := 1, cpu.sp := sp }
    BusInv (s 0xFFFF) ∧ pendingAndEnabled (s 0xFFFF) ≠ 0 ∧
      route ((s 0xFFFF).cpu.sp - 1) = .storage 0xFFFE ∧ route ((s 0xFFFF).cpu.sp - 2) = .storage 0xFFFD ∧
      route ((s 0xFF82).cpu.sp - 1) = .storage 0xFF81 ∧ route ((s 0xFF82).cpu.sp - 2) = .storage 0xFF80 ∧
      Forms.touches 0xFFFE 0xFFFF = false ∧ Forms.touches 0xFFFD 0xFFFF = false := by decide +kernel

/-- EiTakesEffectOneInstructionLater: EI, then NOP or DI. -/
theorem witness_EiTakesEffectOneInstructionLater :
    let s := State.reset
    let u := { s with cpu.eiDelay := 1 }
    s.cpu.eiDelay = 0 ∧ (∃ t, exec .ei s = .next t) ∧ u.cpu.eiDelay = 1 ∧ u.cpu.ime = s.cpu.ime ∧
      (∃ v, exec .nop u = .next v) ∧ (∃ v, exec .di u = .next v) :=
  ⟨rfl, ⟨_, rfl⟩, rfl, rfl, ⟨_, rfl⟩, ⟨_, rfl⟩⟩

/-- FrameTiming, VblankRequest, StatRequests and RenderPoint: the first and the last dot of a frame, and dot 251. -/
theorem witness_FrameTiming :
    (Forms.Displaying State.reset ∧ State.reset.ppu.mode = modeAt State.reset.ppu.ly State.reset.ppu.dot) ∧
      (Forms.Displaying (screen 153 455) ∧ (screen 153 455).ppu.mode = modeAt 153 455) ∧
      Forms.Displaying (screen 143 251) := by decide +kernel

/-- VblankRequest and StatRequests: the display off. -/
theorem witness_displayOff : { State.reset with ppu.lcdc := 0x7F }.ppu.lcdc.getLsbD 7 = false := by decide +kernel

/-- DisplayOffAndOn: each clause's premises. -/
theorem witness_DisplayOffAndOn :
    let off := { State.reset with ppu.lcdc := 0x11 }
    let on := { State.reset with ppu.lcdRunning := false }
    (off.ppu.lcdc.getLsbD 7 = false ∧ off.ppu.lcdRunning = true) ∧
      (on.ppu.lcdc.getLsbD 7 = true ∧ on.ppu.lcdRunning = false) := by decide +kernel

/-- PlanePixels: the last column, a window from the first column. -/
theorem witness_PlanePixels :
    159 < 160 ∧ 7 < 8 ∧ { State.reset with ppu.wx := 7 }.ppu.wx.toNat ≤ 0 + 7 ∧
      { State.reset with ppu.wx := 166 }.ppu.wx.toNat ≤ 159 + 7 := by decide +kernel

/-- SpriteSelection: sprites off and on. -/
theorem witness_SpriteSelection :
    Forms.lcdc 1 State.reset = false ∧ Forms.lcdc 1 { State.reset with ppu.lcdc := 0x93 } = true := by decide +kernel

/-- SpritePixels: the first and the last row and column that a sprite covers. -/
theorem witness_SpritePixels :
    let sp : Sprite := { y := 16, x := 8, tile := 1, attr := 0 }
    (covers sp 0 = true ∧ covers sp 7 = true ∧ covers sp 8 = false) ∧
      (sp.y.toNat ≤ (0 : Byte).toNat + 16 ∧ (7 : Byte).toNat + 16 < sp.y.toNat + 8) := by decide +kernel

/-- PixelComposition: each clause's premises, with the sprite of V-G9. -/
theorem witness_PixelComposition :
    let s := { lab [] [(0x8000, 0x80), (0x8010, 0xF0)] with ppu.bgp := 0xE4, ppu.lcdc := 0x93 }
    let sp : Sprite := { y := 16, x := 8, tile := 1, attr := 0x80 }
    (Forms.lcdc 0 s = true ∧ Forms.lcdc 0 { s with ppu.lcdc := 0x92 } = false) ∧
      (covers sp 0 = true ∧ spriteIndex sp 0 0 s ≠ 0 ∧ underIndex 0 0 s ≠ 0) ∧
      (spriteIndex sp 0 4 s = 0 ∧ covers sp 8 = false) := by decide +kernel

end Sys2Proof.Tests
end

namespace Sys2Proof.Machine

/-! ## What the environment fixes (R9, R285, R304) -/

/-- From `s` to `t` the launch parameters, the moves to come, the fault log and the collaborators' promises are the
same. Weaker than `Keeps`, so that it also covers the fetch, HALT, STOP, a dispatch and the PPU. -/
structure SameEnvironment (s t : State) : Prop where
  env : t.env = s.env
  ext : t.bus.ext = s.bus.ext

namespace SameEnvironment

theorem refl (s : State) : SameEnvironment s s := ⟨rfl, rfl⟩

theorem trans {s t u : State} (h : SameEnvironment s t) (k : SameEnvironment t u) : SameEnvironment s u :=
  ⟨k.env.trans h.env, k.ext.trans h.ext⟩

theorem of_keeps {s t : State} (k : Keeps s t) : SameEnvironment s t := ⟨k.env, k.ext⟩

theorem of_ppuOnly {s t : State} (k : PpuOnly s t) : SameEnvironment s t := ⟨k.env, congrArg Bus.ext k.bus⟩

/-! ### The fetch (R97) -/

theorem fetch8 (s : State) : SameEnvironment s (Machine.fetch8 s).2 :=
  of_keeps ((Keeps.memRead _ _).trans (.setPc _ _))

theorem fetchOpcode (s : State) : SameEnvironment s (Machine.fetchOpcode s).2 := by
  have hread : SameEnvironment s (memRead s.cpu.pc s).2 := of_keeps (.memRead _ _)
  unfold Machine.fetchOpcode
  dsimp only
  split
  · exact hread.trans ⟨rfl, rfl⟩
  · exact hread.trans (of_keeps (.setPc _ _))

theorem fetchInstr (s : State) : SameEnvironment s (Machine.fetchInstr s).2 := by
  have hop := fetchOpcode s
  unfold Machine.fetchInstr
  dsimp only
  split
  · exact hop.trans ⟨rfl, rfl⟩
  · split
    · exact hop
    · exact hop.trans (fetch8 _)
    · exact (hop.trans (fetch8 _)).trans (fetch8 _)

/-! ### The instruction and what follows it (R231 to R234) -/

theorem opHalt (s : State) : SameEnvironment s (Machine.opHalt s) := by
  unfold Machine.opHalt
  split <;> exact ⟨rfl, rfl⟩

theorem exec {i : Instr} {s t : State} (he : Machine.exec i s = .next t) : SameEnvironment s t := by
  obtain ⟨u, h, hk⟩ | ⟨h, -⟩ | ⟨pad, h, -⟩ | ⟨op, h, -⟩ := exec_cases i s <;> rw [h] at he <;> cases he
  · exact of_keeps hk
  · exact opHalt s
  · exact ⟨rfl, rfl⟩

theorem boundary (s : State) : SameEnvironment s (Machine.boundary s) := by
  unfold Machine.boundary
  split
  · split <;> exact ⟨rfl, rfl⟩
  · exact refl s

theorem takeInterrupt (s : State) : SameEnvironment s (Machine.takeInterrupt s) :=
  ⟨takeInterrupt_env s, takeInterrupt_ext s⟩

theorem setCycles (n : Nat) (s : State) : SameEnvironment s (Machine.setCycles n s) := of_keeps (.setCycles n s)

theorem interruptCheck (s : State) : SameEnvironment s (Machine.interruptCheck s) := by
  unfold Machine.interruptCheck
  split
  · exact (takeInterrupt s).trans (setCycles _ _)
  · exact refl s

theorem haltedStep (s : State) : SameEnvironment s (Machine.haltedStep s) := by
  have hwake : SameEnvironment s { s with cpu.halted := false } := ⟨rfl, rfl⟩
  unfold Machine.haltedStep
  dsimp only
  split
  · exact setCycles _ _
  · split
    · exact (hwake.trans (takeInterrupt _)).trans (setCycles _ _)
    · exact hwake.trans (setCycles _ _)

/-! ### The CPU step and the system step (R230, R231) -/

theorem runInstr {s t : State} (h : Machine.runInstr s = .next t) : SameEnvironment s t := by
  unfold Machine.runInstr at h
  dsimp only at h
  split at h
  case h_1 u hu =>
    cases h
    exact (((fetchInstr s).trans (exec hu)).trans (boundary u)).trans (interruptCheck _)
  all_goals cases h

theorem cpuStep {s t : State} (h : Machine.cpuStep s = .next t) : SameEnvironment s t := by
  unfold Machine.cpuStep at h
  split at h
  · cases h
    exact setCycles _ _
  · split at h
    · cases h
      exact haltedStep s
    · exact runInstr h

theorem systemStep {s t : State} (h : Machine.systemStep s = .next t) : SameEnvironment s t := by
  unfold Machine.systemStep at h
  split at h
  case h_1 u hu =>
    cases h
    exact (cpuStep hu).trans (of_ppuOnly (.ppuAdvance _ u))
  all_goals cases h

/-! ### The host's moves (R285) -/

theorem hostMove (m : HostMove) (s : State) : SameEnvironment s (Machine.hostMove m s) := by
  cases m <;> exact ⟨rfl, rfl⟩

theorem foldl_hostMove (ms : List HostMove) (s : State) :
    SameEnvironment s (ms.foldl (fun t m => Machine.hostMove m t) s) := by
  induction ms generalizing s with
  | nil => exact refl s
  | cons m ms ih => exact (hostMove m s).trans (ih _)

end SameEnvironment

/-- Making the moves before a step uses up the first entry of the schedule and changes nothing else of what the
environment fixes. -/
theorem takeMoves_sameEnvironment (s : State) :
    SameEnvironment { s with env.moves := s.env.moves.tail } (takeMoves s) := by
  unfold takeMoves
  split
  case h_1 hnil => exact ⟨by rw [hnil, List.tail_nil, ← hnil], rfl⟩
  case h_2 ms later hcons =>
    rw [hcons, List.tail_cons]
    exact .foldl_hostMove ms _

/-- Settles O10: the moves shorten the schedule, and the system step after them keeps the whole environment. -/
theorem parametersAndLogAreFixed : Obligations.ParametersAndLogAreFixed := by
  unfold Obligations.ParametersAndLogAreFixed
  intro s t h
  obtain ⟨henv, hext⟩ := (takeMoves_sameEnvironment s).trans (.systemStep h)
  exact ⟨henv, hext⟩

end Sys2Proof.Machine

namespace Sys2Proof.Machine

/-! ## The ways a step completes (R230, R231) -/

/-- A CPU step that completes is one of a stopped CPU, of a halted one, or of one that runs an instruction. -/
theorem cpuStep_cases {s t : State} (h : cpuStep s = .next t) :
    (s.cpu.stopped = true ∧ t = setCycles 4 s) ∨
    (s.cpu.stopped = false ∧ s.cpu.halted = true ∧ t = haltedStep s) ∨
    (s.cpu.stopped = false ∧ s.cpu.halted = false ∧
      ∃ u, exec (fetchInstr s).1 (fetchInstr s).2 = .next u ∧ t = interruptCheck (boundary u)) := by
  unfold cpuStep at h
  cases hs : s.cpu.stopped with
  | true =>
    rw [if_pos hs] at h
    cases h
    exact .inl ⟨rfl, rfl⟩
  | false =>
    rw [if_neg (by simp [hs])] at h
    cases hh : s.cpu.halted with
    | true =>
      rw [if_pos hh] at h
      cases h
      exact .inr (.inl ⟨rfl, rfl, rfl⟩)
    | false =>
      rw [if_neg (by simp [hh]), runInstr] at h
      dsimp only at h
      split at h
      case h_1 u hu =>
        cases h
        exact .inr (.inr ⟨rfl, rfl, u, hu, rfl⟩)
      all_goals cases h

/-- A system step that completes is a CPU step that completes, then the PPU's advance by its cycles. -/
theorem systemStep_cases {s t : State} (h : systemStep s = .next t) :
    ∃ u, cpuStep s = .next u ∧ t = ppuAdvance u.cpu.cycles u := by
  unfold systemStep at h
  split at h
  case h_1 u hu =>
    cases h
    exact ⟨u, hu, rfl⟩
  all_goals cases h

/-! ## The invariant (R24, R28, R31, R32, R36, R41 to R45, R267) -/

theorem inv_cpuStep {s t : State} (hinv : Inv s) (h : cpuStep s = .next t) : Inv t := by
  obtain ⟨-, rfl⟩ | ⟨-, -, rfl⟩ | ⟨hs, hh, u, hu, rfl⟩ := cpuStep_cases h
  · exact inv_setCycles 4 hinv
  · exact inv_haltedStep hinv
  · obtain ⟨hfetched, hhalted, hstopped⟩ := inv_fetchInstr s hinv
    have hran : Inv u := inv_exec hfetched (hhalted.trans hh) (hstopped.trans hs) hu
    exact inv_interruptCheck (inv_boundary hran)

/-- Settles O13: the host's moves, the CPU step and the PPU's advance each keep the invariant. -/
theorem stepKeepsTheInvariant : Obligations.StepKeepsTheInvariant := by
  unfold Obligations.StepKeepsTheInvariant
  intro s t hinv h
  obtain ⟨u, hu, rfl⟩ := systemStep_cases h
  exact inv_advance _ (inv_cpuStep (inv_takeMoves hinv) hu)

/-- Settles O14: the CPU's values and the ranges are read off; the framebuffer is the blank frame. -/
theorem resetMeetsTheInvariant : Obligations.ResetMeetsTheInvariant := by
  unfold Obligations.ResetMeetsTheInvariant
  have hcpu : CpuInv State.reset := by decide
  have hppu : PpuInv State.reset :=
    ⟨by decide, by decide, by decide, fun _ => rfl, fun h => (nomatch h), by decide, blankFramebuffer_shape⟩
  exact ⟨hcpu, hppu, rfl⟩

/-- Settles O15: each field of the reset record, the three pairs put together from their registers. -/
theorem resetValues : Obligations.ResetValues := by
  unfold Obligations.ResetValues
  refine ⟨⟨rfl, rfl, ?bc, ?de, ?hl, rfl, rfl⟩, ⟨rfl, rfl, rfl, rfl, rfl, rfl, rfl⟩,
    ⟨rfl, rfl, rfl, rfl, rfl, rfl, rfl, rfl, rfl, rfl, rfl⟩, ⟨rfl, rfl, rfl, rfl, rfl, rfl, rfl, rfl⟩⟩
  case bc => decide
  case de => decide
  case hl => decide

end Sys2Proof.Machine

namespace Sys2Proof.Machine

/-! ## The dots of a frame (R42, R261, R262, R266) -/

/-- The last dot of a line moves a displaying PPU to the first dot of the next line; every other dot moves it on by one.
The frame boundary is the last dot of line 153. -/
theorem ppuTick_position {s : State} (h : Forms.Displaying s) :
    (ppuTick s).ppu.lcdRunning = true ∧
    (ppuTick s).ppu.dot = (if s.ppu.dot = 455 then 0 else s.ppu.dot + 1) ∧
    (ppuTick s).ppu.ly = (if s.ppu.dot = 455 then Forms.lineAfter s.ppu.ly else s.ppu.ly) ∧
    (ppuTick s).ppu.frameEvent =
      s.ppu.frameEvent + (if s.ppu.dot = 455 ∧ s.ppu.ly = 153 then 1 else 0) := by
  obtain ⟨hl, hr, -, -⟩ := h
  by_cases hend : s.ppu.dot = 455
  · rw [ppuTick_lineEnd_ppu hl hr hend]
    by_cases hly : s.ppu.ly = 153#8 <;> simp [hend, hr, Forms.lineAfter, hly]
  by_cases hv : s.ppu.ly.toNat < 144
  · by_cases h79 : s.ppu.dot = 79
    · simp [ppuTick_transfer hl hr hv h79, hr, h79]
    by_cases h251 : s.ppu.dot = 251
    · simp [ppuTick_render hl hr hv h251, setMode_ppu, renderLine, hr, h251]
    · simp [ppuTick_plain hl hr (fun _ => ⟨h79, h251⟩) hend, hr, hend]
  · simp [ppuTick_plain hl hr (fun hv' => absurd hv' hv) hend, hr, hend]

/-- The line after a legal line, as a number. -/
theorem toNat_lineAfter {ly : Byte} (h : ly.toNat ≤ 153) :
    (Forms.lineAfter ly).toNat = if ly.toNat = 153 then 0 else ly.toNat + 1 := toNat_nextLy h

/-- The mode that `enterLine` leaves at the end of a line is the one of the first dot of the next line: V-blank is
entered at line 144 and held from there on, mode 2 is entered on a visible line. -/
theorem modeAt_lineAfter {ly : Byte} (h : ly.toNat ≤ 153) :
    (if Forms.lineAfter ly = 144 then .vblank
      else if (Forms.lineAfter ly).toNat < 144 then .oamScan else modeAt ly 455) =
      modeAt (Forms.lineAfter ly) 0 := by
  have hnext := toNat_lineAfter h
  have h144 : Forms.lineAfter ly = 144 ↔ (Forms.lineAfter ly).toNat = 144 := BitVec.toNat_inj.symm
  by_cases hfirst : Forms.lineAfter ly = 144
  · rw [if_pos hfirst, hfirst]
    rfl
  rw [if_neg hfirst]
  by_cases hvis : (Forms.lineAfter ly).toNat < 144
  · simp [modeAt, hvis]
  · have hold : ly.toNat ≥ 144 := by
      have := mt h144.mpr hfirst
      split at hnext <;> omega
    simp [modeAt, hvis, hold, Nat.not_lt.mp hvis]

/-- A tick of a displaying PPU keeps the mode the one of its line and dot (R42, R261). -/
theorem ppuTick_mode {s : State} (h : Forms.Displaying s) (hm : s.ppu.mode = modeAt s.ppu.ly s.ppu.dot) :
    (ppuTick s).ppu.mode = modeAt (ppuTick s).ppu.ly (ppuTick s).ppu.dot := by
  obtain ⟨hl, hr, hly, -⟩ := h
  by_cases hend : s.ppu.dot = 455
  · rw [ppuTick_lineEnd_ppu hl hr hend, hm, hend]
    exact modeAt_lineAfter hly
  by_cases hv : s.ppu.ly.toNat < 144
  · by_cases h79 : s.ppu.dot = 79
    · simp [ppuTick_transfer hl hr hv h79, modeAt, hv]
    by_cases h251 : s.ppu.dot = 251
    · simp [ppuTick_render hl hr hv h251, setMode_ppu, renderLine, modeAt, hv]
    · have h80 : s.ppu.dot + 1 < 80 ↔ s.ppu.dot < 80 := by omega
      have h252 : s.ppu.dot + 1 < 252 ↔ s.ppu.dot < 252 := by omega
      rw [ppuTick_plain hl hr (fun _ => ⟨h79, h251⟩) hend]
      simpa only [modeAt, h80, h252] using hm
  · rw [ppuTick_plain hl hr (fun hv' => absurd hv' hv) hend]
    simpa only [modeAt, if_pos (Nat.not_lt.mp hv)] using hm

theorem displaying_ppuTick {s : State} (h : Forms.Displaying s) : Forms.Displaying (ppuTick s) := by
  obtain ⟨hrun, hdot, hline, -⟩ := ppuTick_position h
  obtain ⟨hl, -, hly, hd⟩ := h
  have hnext := toNat_lineAfter hly
  refine ⟨(PpuOnly.ppuTick s).lcdc ▸ hl, hrun, ?_, ?_⟩
  · rw [hline]
    split
    · split at hnext <;> omega
    · exact hly
  · rw [hdot]
    split <;> omega

theorem framePos_lt {s : State} (h : Forms.Displaying s) : Forms.framePos s < 70224 := by
  obtain ⟨-, -, hly, hd⟩ := h
  unfold Forms.framePos
  omega

/-- A tick moves the frame position by one, and from the last position to the first. -/
theorem framePos_ppuTick {s : State} (h : Forms.Displaying s) :
    Forms.framePos (ppuTick s) = (Forms.framePos s + 1) % 70224 := by
  obtain ⟨-, hdot, hline, -⟩ := ppuTick_position h
  obtain ⟨-, -, hly, hd⟩ := h
  have hnext := toNat_lineAfter hly
  unfold Forms.framePos
  rw [hdot, hline]
  split
  · rw [hnext]
    split <;> omega
  · omega

/-- A tick counts a frame boundary exactly when the frame position wraps. -/
theorem frameEvent_ppuTick {s : State} (h : Forms.Displaying s) :
    (ppuTick s).ppu.frameEvent = s.ppu.frameEvent + (Forms.framePos s + 1) / 70224 := by
  obtain ⟨-, -, -, hevent⟩ := ppuTick_position h
  obtain ⟨-, -, hly, hd⟩ := h
  have hlast : s.ppu.ly = 153 ↔ s.ppu.ly.toNat = 153 := BitVec.toNat_inj.symm
  simp only [hevent, hlast, Forms.framePos]
  split <;> omega

/-- Settles O50, by induction on the number of dots: each tick keeps the display running and its mode right, and moves
the frame position by one. -/
theorem frameTiming : Obligations.FrameTiming := by
  unfold Obligations.FrameTiming
  intro n
  induction n with
  | zero =>
    intro s h hm
    have hpos : Forms.framePos s < 70224 := framePos_lt h
    refine ⟨h, (Nat.mod_eq_of_lt hpos).symm, ?_, hm⟩
    rw [Nat.add_zero, Nat.div_eq_of_lt hpos]
    rfl
  | succ n ih =>
    intro s h hm
    obtain ⟨hdisp, hpos, hevent, hmode⟩ := ih (ppuTick s) (displaying_ppuTick h) (ppuTick_mode h hm)
    rw [framePos_ppuTick h] at hpos hevent
    rw [frameEvent_ppuTick h] at hevent
    refine ⟨hdisp, hpos.trans ?_, hevent.trans ?_, hmode⟩
    · omega
    · omega

end Sys2Proof.Machine

namespace Sys2Proof.Machine

/-! ## What an instruction does, by its shared operation and its row of the table of flag writers (R25) -/

/-- The row of an instruction that writes no flag. -/
def keptFlags : Forms.FlagRow := ⟨.keep, .keep, .keep, .keep⟩

/-- The row of a rotate or shift of the CB page: SWAP clears C, the others shift a bit into it. -/
def rotFlagRow : RotOp → Forms.FlagRow
  | .swap => ⟨.result, .zero, .zero, .zero⟩
  | _ => ⟨.result, .zero, .zero, .result⟩

/-- `Effect i s row t`: instruction `i` takes `s` to `t` by one of the shared operations, and `row` is what the rule of
that operation says of the flags. DI, RETI and EI, which reach the interrupt state, are told apart by the
instruction. -/
inductive Effect : Instr → State → Forms.FlagRow → State → Prop where
  | ld8 (i s dst src n) : Effect i s keptFlags (opLd8 dst src n s)
  | loadA (i s a n) : Effect i s keptFlags (opLoadA a n s)
  | storeA (i s a n) : Effect i s keptFlags (opStoreA a n s)
  | loadABump (i s a n d) : Effect i s keptFlags (bumpHl d (opLoadA a n s))
  | storeABump (i s a n d) : Effect i s keptFlags (bumpHl d (opStoreA a n s))
  | ldPair (i s p d) : Effect i s keptFlags (opLdPair p d s)
  | storeSp (i s a) : Effect i s keptFlags (opStoreSp a s)
  | ldSpHl (i s) : Effect i s keptFlags (opLdSpHl s)
  | push (i s p) : Effect i s keptFlags (opPush p s)
  | popBc (i s) : Effect i s keptFlags (opPop .bc s)
  | popDe (i s) : Effect i s keptFlags (opPop .de s)
  | popHl (i s) : Effect i s keptFlags (opPop .hl s)
  | popAf (i s) : Effect i s ⟨.result, .result, .result, .result⟩ (opPop .af s)
  | alu (i s op src) : Effect i s (Forms.aluFlagRow (Forms.aluCode op).toNat) (opAlu op src s)
  | inc (i s x) : Effect i s ⟨.result, .zero, .result, .keep⟩ (opInc x s)
  | dec (i s x) : Effect i s ⟨.result, .one, .result, .keep⟩ (opDec x s)
  | daa (i s) : Effect i s ⟨.result, .keep, .zero, .result⟩ (opDaa s)
  | cpl (i s) : Effect i s ⟨.keep, .one, .one, .keep⟩ (opCpl s)
  | scf (i s) : Effect i s ⟨.keep, .zero, .zero, .one⟩ (opScf s)
  | ccf (i s) : Effect i s ⟨.keep, .zero, .zero, .result⟩ (opCcf s)
  | incPair (i s p) : Effect i s keptFlags (opIncPair p s)
  | decPair (i s p) : Effect i s keptFlags (opDecPair p s)
  | addHl (i s p) : Effect i s ⟨.keep, .zero, .result, .result⟩ (opAddHl p s)
  | addSp (i s e8) : Effect i s ⟨.zero, .zero, .result, .result⟩ (opAddSp e8 s)
  | ldHlSp (i s e8) : Effect i s ⟨.zero, .zero, .result, .result⟩ (opLdHlSp e8 s)
  | rotateA (i s op) : Effect i s ⟨.zero, .zero, .zero, .result⟩ (opRotateA op s)
  | rotate (i s op x) : Effect i s (rotFlagRow op) (opRotate op x s)
  | bit (i s b x) : Effect i s ⟨.result, .zero, .one, .keep⟩ (opBit b x s)
  | res (i s b x) : Effect i s keptFlags (opRes b x s)
  | set (i s b x) : Effect i s keptFlags (opSet b x s)
  | jp (i s a) : Effect i s keptFlags (opJp a s)
  | jpCc (i s cc a) : Effect i s keptFlags (opJpCc cc a s)
  | jpHl (i s) : Effect i s keptFlags (opJpHl s)
  | jr (i s e8) : Effect i s keptFlags (opJr e8 s)
  | jrCc (i s cc e8) : Effect i s keptFlags (opJrCc cc e8 s)
  | call (i s a) : Effect i s keptFlags (opCall a s)
  | callCc (i s cc a) : Effect i s keptFlags (opCallCc cc a s)
  | ret (i s) : Effect i s keptFlags (opRet s)
  | retCc (i s cc) : Effect i s keptFlags (opRetCc cc s)
  | reti (s) : Effect .reti s keptFlags (opReti s)
  | rst (i s y) : Effect i s keptFlags (opRst y s)
  | nop (i s) : Effect i s keptFlags (opNop s)
  | halt (i s) : Effect i s keptFlags (opHalt s)
  | stop (i s) : Effect i s keptFlags (opStop s)
  | di (s) : Effect .di s keptFlags (opDi s)
  | ei (s) : Effect .ei s keptFlags (opEi s)

/-! ### The row of an instruction's bytes -/

/-- The row is found by the opcode, and after 0xCB by the CB byte; no other operand byte takes part. -/
theorem flagRow_cons (op : Byte) (rest : List Byte) :
    Forms.flagRow (op :: rest) = if op = 0xCB then Forms.cbFlagRow (rest.headD 0).toNat else Forms.flagRow [op] := by
  by_cases h : op = 0xCB
  · subst h
    cases rest <;> rfl
  · have h' : ¬ op.toNat = 0xCB := fun e => h (BitVec.eq_of_toNat_eq e)
    unfold Forms.flagRow
    rw [if_neg h, List.headD_cons, List.headD_cons, if_neg h', if_neg h']

/-- The row of a CB byte of the rotates and shifts, by the code `y` that `opCbPage` reads. -/
theorem cbFlagRow_rotate {n : Nat} (h : n / 64 = 0) : Forms.cbFlagRow n = rotFlagRow (rotOfCode (n / 8 % 8)) := by
  have hlt : n / 8 < 8 := by omega
  unfold Forms.cbFlagRow
  rw [if_pos h, Nat.mod_eq_of_lt hlt]
  generalize n / 8 = y at hlt ⊢
  interval_cases y <;> rfl

/-- The escape's meaning by the CB byte's field x: a rotate or shift, BIT, RES or SET (R226). -/
theorem opCbPage_effect (i : Instr) (cb : Byte) (s : State) :
    Effect i s (Forms.cbFlagRow cb.toNat) (opCbPage cb s) := by
  unfold opCbPage
  dsimp only
  split
  case h_1 h =>
    rw [cbFlagRow_rotate h]
    exact .rotate ..
  case h_2 h =>
    have hrow : Forms.cbFlagRow cb.toNat = ⟨.result, .zero, .one, .keep⟩ := by simp [Forms.cbFlagRow, h]
    rw [hrow]
    exact .bit ..
  case h_3 h =>
    have hrow : Forms.cbFlagRow cb.toNat = keptFlags := by simp [Forms.cbFlagRow, h, keptFlags]
    rw [hrow]
    exact .res ..
  case h_4 h0 h1 _ =>
    have hrow : Forms.cbFlagRow cb.toNat = keptFlags := by
      unfold Forms.cbFlagRow
      rw [if_neg h0, if_neg h1]
      rfl
    rw [hrow]
    exact .set ..

/-- The row of the effect that was found is the row that the table gives the instruction's bytes. -/
theorem Effect.of_row {i : Instr} {s t : State} {row : Forms.FlagRow} (h : Effect i s row t)
    (hrow : Forms.flagRow (encode i) = row) : Effect i s (Forms.flagRow (encode i)) t := hrow ▸ h

/-- An instruction that completes has an effect, with the row that the table of R25 gives its bytes. -/
theorem exec_effect {i : Instr} {s t : State} (h : exec i s = .next t) : Effect i s (Forms.flagRow (encode i)) t := by
  cases i <;> cases h
  case prefix_cb.refl cb => exact (opCbPage_effect _ cb s).of_row (flagRow_cons _ _)
  all_goals
    apply Effect.of_row
    case h => with_reducible constructor
    case hrow => exact (flagRow_cons _ _).trans rfl

/-! ### What the operand accesses leave of the CPU -/

@[simp] theorem readSrc8_cpu (x : Src8) (s : State) : (readSrc8 x s).2.cpu = s.cpu := by
  cases x <;> simp [readSrc8]

@[simp] theorem readPlace8_cpu (x : Place8) (s : State) : (readPlace8 x s).2.cpu = s.cpu := by
  cases x <;> simp [readPlace8]

@[simp] theorem writePlace8_f (x : Place8) (v : Byte) (s : State) : (writePlace8 x v s).cpu.f = s.cpu.f := by
  cases x <;> simp [writePlace8]

@[simp] theorem writePlace8_ime (x : Place8) (v : Byte) (s : State) : (writePlace8 x v s).cpu.ime = s.cpu.ime := by
  cases x <;> simp [writePlace8]

@[simp] theorem writePlace8_eiDelay (x : Place8) (v : Byte) (s : State) :
    (writePlace8 x v s).cpu.eiDelay = s.cpu.eiDelay := by
  cases x <;> simp [writePlace8]

/-! ### The flags (R25) -/

/-- One entry of a rule's flag line, as `writeFlags` takes it, is what an entry of the table of R25 says. -/
def agrees : Forms.FlagEntry → Option Bool → Prop
  | .keep, v => v = none
  | .zero, v => v = some false
  | .one, v => v = some true
  | .result, _ => True

theorem allows_of_agrees {e : Forms.FlagEntry} {v : Option Bool} (h : agrees e v) (old : Bool) :
    e.allows old (v.getD old) := by
  cases e <;> simp_all [agrees, Forms.FlagEntry.allows]

/-- From `s` to `t` each flag obeys its entry of the row. -/
structure FlagsObey (row : Forms.FlagRow) (s t : State) : Prop where
  z : row.z.allows (flagZ s) (flagZ t)
  n : row.n.allows (flagN s) (flagN t)
  h : row.h.allows (flagH s) (flagH t)
  c : row.c.allows (flagC s) (flagC t)

theorem FlagsObey.of_f_eq {s t : State} (hf : t.cpu.f = s.cpu.f) : FlagsObey keptFlags s t := by
  constructor <;> simp [keptFlags, Forms.FlagEntry.allows, flagZ, flagN, flagH, flagC, hf]

/-- A flag line written over the flags of `s`, where each of its entries is what the row says. -/
theorem FlagsObey.of_writeFlags {row : Forms.FlagRow} {z n h c : Option Bool} {s u : State} {k : Nat}
    (hf : u.cpu.f = s.cpu.f) (hz : agrees row.z z) (hn : agrees row.n n) (hh : agrees row.h h) (hc : agrees row.c c) :
    FlagsObey row s (setCycles k (writeFlags z n h c u)) := by
  have hbit : ∀ i, u.cpu.f.getLsbD i = s.cpu.f.getLsbD i := fun i => by rw [hf]
  constructor
  · exact (writeFlags_flagZ z n h c u).trans (congrArg z.getD (hbit 7)) ▸ allows_of_agrees hz (flagZ s)
  · exact (writeFlags_flagN z n h c u).trans (congrArg n.getD (hbit 6)) ▸ allows_of_agrees hn (flagN s)
  · exact (writeFlags_flagH z n h c u).trans (congrArg h.getD (hbit 5)) ▸ allows_of_agrees hh (flagH s)
  · exact (writeFlags_flagC z n h c u).trans (congrArg c.getD (hbit 4)) ▸ allows_of_agrees hc (flagC s)

/-- Every flag is free, as for POP AF. -/
theorem FlagsObey.of_popped (s t : State) : FlagsObey ⟨.result, .result, .result, .result⟩ s t :=
  ⟨trivial, trivial, trivial, trivial⟩

theorem opAlu_flagsObey (op : AluOp) (src : Src8) (s : State) :
    FlagsObey (Forms.aluFlagRow (Forms.aluCode op).toNat) s (opAlu op src s) := by
  have hf : (if op.writesA then writeReg8 .a (aluOut op (readSrc8 src s).2.cpu.a (readSrc8 src s).1
      (flagC (readSrc8 src s).2)).r (readSrc8 src s).2 else (readSrc8 src s).2).cpu.f = s.cpu.f := by
    split <;> simp
  cases op
  case and => exact .of_writeFlags hf trivial rfl rfl rfl
  case or => exact .of_writeFlags hf trivial rfl rfl rfl
  case xor => exact .of_writeFlags hf trivial rfl rfl rfl
  all_goals exact .of_writeFlags hf trivial rfl trivial trivial

theorem opRotate_flagsObey (op : RotOp) (x : Place8) (s : State) : FlagsObey (rotFlagRow op) s (opRotate op x s) := by
  have hf : ∀ r, (writePlace8 x r (readPlace8 x s).2).cpu.f = s.cpu.f := by simp
  cases op
  case swap => exact .of_writeFlags (hf _) trivial rfl rfl rfl
  all_goals exact .of_writeFlags (hf _) trivial rfl rfl trivial

/-- Reading and writing back an operand leaves F. -/
theorem writePlace8_readPlace8_f (x : Place8) (r : Byte) (s : State) :
    (writePlace8 x r (readPlace8 x s).2).cpu.f = s.cpu.f := by simp

/-- Every effect obeys its row. The operations with a flag line come first, then those that branch; the rest are chains
of updates that leave F. -/
theorem Effect.flagsObey {i : Instr} {s t : State} {row : Forms.FlagRow} (e : Effect i s row t) :
    FlagsObey row s t := by
  cases e
  case alu => exact opAlu_flagsObey ..
  case rotate => exact opRotate_flagsObey ..
  case popAf => exact .of_popped ..
  case inc => exact .of_writeFlags (writePlace8_readPlace8_f _ _ s) trivial rfl trivial rfl
  case dec => exact .of_writeFlags (writePlace8_readPlace8_f _ _ s) trivial rfl trivial rfl
  case bit => exact .of_writeFlags (congrArg Cpu.f (readPlace8_cpu _ s)) trivial rfl rfl rfl
  case daa => exact .of_writeFlags (by simp) trivial rfl rfl trivial
  case cpl => exact .of_writeFlags (by simp) rfl rfl rfl rfl
  case scf => exact .of_writeFlags rfl rfl rfl rfl rfl
  case ccf => exact .of_writeFlags rfl rfl rfl rfl trivial
  case addHl => exact .of_writeFlags (by simp) rfl rfl trivial trivial
  case addSp => exact .of_writeFlags (by simp) rfl rfl trivial trivial
  case ldHlSp => exact .of_writeFlags (by simp) rfl rfl trivial trivial
  case rotateA => exact .of_writeFlags (by simp) rfl rfl rfl trivial
  all_goals apply FlagsObey.of_f_eq
  case jpCc => unfold opJpCc; split <;> simp
  case jrCc => unfold opJrCc; split <;> simp
  case callCc => unfold opCallCc; split <;> simp [callTo]
  case retCc => unfold opRetCc; split <;> simp [returnTo]
  case halt => unfold opHalt; split <;> simp
  case ei => unfold opEi; split <;> simp
  all_goals simp [opLd8, opLoadA, opStoreA, bumpHl, opLdPair, opStoreSp, opLdSpHl, opPush, opPop, writeStackPair,
    opIncPair, opDecPair, opRes, opSet, opJp, opJpHl, opJr, opCall, callTo, opRet, returnTo, opReti,
    returnFromInterrupt, opRst, opNop, opStop, opDi]

/-- Settles O41: every instruction's effect obeys the row of its bytes; a dispatch writes no part of F. -/
theorem flagWriters : Obligations.FlagWriters := by
  unfold Obligations.FlagWriters
  refine ⟨fun i s t h => ?_, fun s => by rw [takeInterrupt_cpu]⟩
  obtain ⟨hz, hn, hh, hc⟩ := (exec_effect h).flagsObey
  exact ⟨hz, hn, hh, hc⟩

/-! ## The interrupt state (R27, R28) -/

/-- An instruction other than DI, RETI and EI leaves IME and the EI delay alone. -/
theorem Effect.interruptState {i : Instr} {s t : State} {row : Forms.FlagRow} (e : Effect i s row t)
    (hdi : i ≠ .di) (hreti : i ≠ .reti) (hei : i ≠ .ei) :
    t.cpu.ime = s.cpu.ime ∧ t.cpu.eiDelay = s.cpu.eiDelay := by
  cases e
  case di => exact absurd rfl hdi
  case reti => exact absurd rfl hreti
  case ei => exact absurd rfl hei
  case alu => unfold opAlu; dsimp only; split <;> simp
  case jpCc => unfold opJpCc; split <;> simp
  case jrCc => unfold opJrCc; split <;> simp
  case callCc => unfold opCallCc; split <;> simp [callTo]
  case retCc => unfold opRetCc; split <;> simp [returnTo]
  case halt => unfold opHalt; split <;> simp
  all_goals simp [opLd8, opLoadA, opStoreA, bumpHl, opLdPair, opStoreSp, opLdSpHl, opPush, opPop, opInc, opDec, opDaa,
    opCpl, opScf, opCcf, opIncPair, opDecPair, opAddHl, opAddSp, opLdHlSp, opRotateA, opRotate, opBit, opRes, opSet,
    opJp, opJpHl, opJr, opCall, callTo, opRet, returnTo, opRst, opNop, opStop]

/-- EI leaves IME to the boundary, and arms its delay when none is counting (R224). -/
theorem opEi_interruptState (s : State) :
    (opEi s).cpu.ime = s.cpu.ime ∧
      (opEi s).cpu.eiDelay = if s.cpu.eiDelay = 0 then 2 else s.cpu.eiDelay := by
  unfold opEi
  by_cases h : s.cpu.eiDelay = 0 <;> simp [h]

/-- RETI sets IME at once and cancels a pending EI (R210). -/
theorem opReti_interruptState (s : State) : (opReti s).cpu.ime = true ∧ (opReti s).cpu.eiDelay = 0 := ⟨rfl, rfl⟩

/-- Only DI and RETI write IME (R223, R210). -/
theorem exec_ime {i : Instr} {s t : State} (h : exec i s = .next t) (hdi : i ≠ .di) (hreti : i ≠ .reti) :
    t.cpu.ime = s.cpu.ime := by
  by_cases hei : i = .ei
  · subst hei
    cases h
    exact (opEi_interruptState s).1
  · exact ((exec_effect h).interruptState hdi hreti hei).1

/-- With a delay of 1 counting, only DI and RETI write the delay: another EI leaves it (R224). -/
theorem exec_eiDelay_of_one {i : Instr} {s t : State} (h : exec i s = .next t) (hone : s.cpu.eiDelay = 1)
    (hdi : i ≠ .di) (hreti : i ≠ .reti) : t.cpu.eiDelay = 1 := by
  by_cases hei : i = .ei
  · subst hei
    cases h
    simp [opEi_interruptState, hone]
  · rw [((exec_effect h).interruptState hdi hreti hei).2, hone]

/-- The boundary sets IME exactly when a delay of 1 runs out (R232). -/
theorem boundary_ime (s : State) : (boundary s).cpu.ime = (s.cpu.ime || s.cpu.eiDelay == 1) := by
  unfold boundary
  by_cases hzero : s.cpu.eiDelay > 0
  · rw [if_pos hzero]
    by_cases hone : s.cpu.eiDelay = 1
    · simp [hone]
    · have hmore : ¬ s.cpu.eiDelay - 1 = 0 := by omega
      simp [hone, hmore]
  · simp [show s.cpu.eiDelay = 0 by omega]

/-- The boundary counts a delay down (R232). -/
theorem boundary_eiDelay (s : State) : (boundary s).cpu.eiDelay = s.cpu.eiDelay - 1 := by
  unfold boundary
  by_cases hzero : s.cpu.eiDelay > 0
  · rw [if_pos hzero]
    split
    case isTrue hone => exact hone.symm
    case isFalse => rfl
  · simp [show s.cpu.eiDelay = 0 by omega]

theorem hostMove_ime (m : HostMove) (s : State) : (hostMove m s).cpu.ime = s.cpu.ime := by
  cases m <;> rfl

/-- Settles O42: the instructions by their effects, the boundary, a dispatch, the PPU, the host's moves and the bus. -/
theorem imeWriters : Obligations.ImeWriters := by
  unfold Obligations.ImeWriters
  refine ⟨fun i s t h => ⟨?di, ?reti, exec_ime h⟩, boundary_ime, fun s => by rw [takeInterrupt_cpu],
    fun n s => congrArg Cpu.ime (PpuOnly.ppuAdvance n s).cpu, hostMove_ime,
    fun a v x s => ⟨by rw [memWrite_cpu], byteAt_congr rfl rfl rfl rfl a⟩⟩
  case di =>
    rintro rfl
    cases h
    rfl
  case reti =>
    rintro rfl
    cases h
    exact (opReti_interruptState s).1

/-- Settles O49: EI's own boundary counts its delay of 2 down to 1, and the next instruction's boundary ends it with IME
set. DI has cleared both by then; RETI has set IME itself. -/
theorem eiTakesEffectOneInstructionLater : Obligations.EiTakesEffectOneInstructionLater := by
  unfold Obligations.EiTakesEffectOneInstructionLater
  intro s t hzero hei
  cases hei
  obtain ⟨hime, hdelay⟩ := opEi_interruptState s
  rw [if_pos hzero] at hdelay
  refine ⟨by simp [boundary_ime, hime, hdelay], by simp [boundary_eiDelay, hdelay], ?_⟩
  intro i u v hone _ hv
  constructor
  · intro hdi
    by_cases hreti : i = .reti
    · subst hreti
      cases hv
      obtain ⟨himeSet, hcancelled⟩ := opReti_interruptState u
      exact ⟨by simp [boundary_ime, himeSet], by simp [boundary_eiDelay, hcancelled]⟩
    · have hcount := exec_eiDelay_of_one hv hone hdi hreti
      exact ⟨by simp [boundary_ime, hcount], by simp [boundary_eiDelay, hcount]⟩
  · rintro rfl
    cases hv
    exact ⟨by simp [boundary_ime, opDi], by simp [boundary_eiDelay, opDi]⟩

/-! ## The PPU's timing state (R36, R40) -/

/-- The fetch reads the bus and moves PC. -/
theorem fetch8_ppu (s : State) : (fetch8 s).2.ppu = s.ppu := by simp [fetch8]

theorem fetchOpcode_ppu (s : State) : (fetchOpcode s).2.ppu = s.ppu := by
  unfold fetchOpcode
  dsimp only
  split <;> simp

theorem fetchInstr_ppu (s : State) : (fetchInstr s).2.ppu = s.ppu := by
  unfold fetchInstr
  dsimp only
  split
  · exact fetchOpcode_ppu s
  · split <;> simp only [fetch8_ppu, fetchOpcode_ppu]

theorem boundary_ppu (s : State) : (boundary s).ppu = s.ppu := by
  unfold boundary
  split
  · split <;> rfl
  · rfl

theorem exec_timing {i : Instr} {s t : State} (h : exec i s = .next t) : Ppu.SameTiming s.ppu t.ppu := by
  obtain ⟨u, hu, hkeeps⟩ | ⟨hu, -⟩ | ⟨pad, hu, -⟩ | ⟨op, hu, -⟩ := exec_cases i s <;> rw [hu] at h <;> cases h
  · exact hkeeps.timing
  · unfold opHalt
    split <;> exact .refl _
  · exact .refl _

theorem interruptCheck_timing (s : State) : Ppu.SameTiming s.ppu (interruptCheck s).ppu := by
  unfold interruptCheck
  split
  · exact takeInterrupt_timing s
  · exact .refl _

theorem haltedStep_timing (s : State) : Ppu.SameTiming s.ppu (haltedStep s).ppu := by
  unfold haltedStep
  dsimp only
  split
  · exact .refl _
  · split
    · exact takeInterrupt_timing { s with cpu.halted := false }
    · exact .refl _

theorem cpuStep_timing {s t : State} (h : cpuStep s = .next t) : Ppu.SameTiming s.ppu t.ppu := by
  obtain ⟨-, rfl⟩ | ⟨-, -, rfl⟩ | ⟨-, -, u, hu, rfl⟩ := cpuStep_cases h
  · exact .refl _
  · exact haltedStep_timing s
  · have hran := exec_timing hu
    rw [fetchInstr_ppu] at hran
    have hcheck := interruptCheck_timing (boundary u)
    rw [boundary_ppu] at hcheck
    exact hran.trans hcheck

/-- Settles O44. -/
theorem cpuKeepsPpuTiming : Obligations.CpuKeepsPpuTiming := by
  unfold Obligations.CpuKeepsPpuTiming
  intro s t h
  obtain ⟨hmode, hly, hdot, hwindow, hrunning, hoff, hframe, hevent⟩ := cpuStep_timing h
  exact ⟨hmode, hly, hdot, hwindow, hrunning, hoff, hframe, hevent⟩

/-- Settles O45: every tick changes only what `PpuOnly` lets it. -/
theorem advanceTouchesOnlyThePpu : Obligations.AdvanceTouchesOnlyThePpu := by
  unfold Obligations.AdvanceTouchesOnlyThePpu
  intro n s
  have h := PpuOnly.ppuAdvance n s
  exact ⟨h.cpu, h.bus, h.env, h.ie, ⟨h.high, h.kept⟩,
    h.lcdc, h.statEn, h.scy, h.scx, h.lyc, h.bgp, h.obp0, h.obp1, h.wy, h.wx⟩

/-! ## The core's registers (R29 to R39, R62) -/

theorem byteAt_of_reg {a : Word} {r : IoReg} (h : route a = .reg r) (s : State) :
    byteAt a s = some (readIoReg r s) := by
  simp [byteAt, h]

theorem memWrite_of_reg {a : Word} {r : IoReg} (h : route a = .reg r) (v : Byte) (s : State) :
    memWrite a v s = writeIoReg r v s := by
  simp [memWrite, h]

/-- The unused bits of IF read as 1 (R30). -/
theorem readIfr_eq (x : BitVec 5) : 0b111#3 ++ x = 0xE0#8 ||| x.setWidth 8 := by
  revert x
  decide

/-- STAT put together from its fields (R34). -/
theorem stat_layout (en : BitVec 4) (coincides : Bool) (m : PpuMode) :
    1#1 ++ en ++ BitVec.ofBool coincides ++ m.code =
      0x80#8 ||| (en.setWidth 8 <<< 3) ||| (if coincides then 4 else 0) ||| m.code.setWidth 8 := by
  cases m <;> revert en coincides <;> decide

theorem readStat_eq (p : Ppu) :
    readStat p =
      0x80#8 ||| (p.statEn.setWidth 8 <<< 3) ||| (if p.ly = p.lyc then 4 else 0) ||| p.mode.code.setWidth 8 := by
  have hlayout := stat_layout p.statEn (p.ly == p.lyc) p.mode
  simp only [beq_iff_eq] at hlayout
  exact hlayout

/-- Settles O19: each address is routed to its register; IF and STAT are put together on a read. -/
theorem coreRegisters : Obligations.CoreRegisters := by
  unfold Obligations.CoreRegisters
  intro s v
  have hread : ∀ {a} (r), route a = .reg r → byteAt a s = some (readIoReg r s) := fun _ h => byteAt_of_reg h s
  have hwrite : ∀ {a} (r), route a = .reg r → memWrite a v s = writeIoReg r v s := fun _ h => memWrite_of_reg h v s
  have hstat : byteAt 0xFF41 s = some (readStat s.ppu) := hread .stat rfl
  refine ⟨⟨(hread .ifr rfl).trans (congrArg some (readIfr_eq _)), hwrite .ifr rfl⟩,
    ⟨hread .lcdc rfl, hwrite .lcdc rfl⟩, ⟨?stat, hwrite .stat rfl⟩,
    ⟨hread .scy rfl, hwrite .scy rfl⟩, ⟨hread .scx rfl, hwrite .scx rfl⟩,
    ⟨hread .ly rfl, hwrite .ly rfl⟩, ⟨hread .lyc rfl, hwrite .lyc rfl⟩,
    ⟨hread .bgp rfl, hwrite .bgp rfl⟩, ⟨hread .obp0 rfl, hwrite .obp0 rfl⟩,
    ⟨hread .obp1 rfl, hwrite .obp1 rfl⟩, ⟨hread .wy rfl, hwrite .wy rfl⟩,
    ⟨hread .wx rfl, hwrite .wx rfl⟩, ⟨hread .ie rfl, hwrite .ie rfl⟩⟩
  case stat =>
    rw [hstat, readStat_eq]
    cases s.ppu.mode <;> rfl

/-! ## The pair views (R20, R21, R24) -/

/-- The F that POP AF writes, as four flags and a clear low nibble (R24). -/
theorem poppedFlags_eq (v : Word) :
    v.extractLsb' 4 4 ++ 0#4 = flagByte (v.getLsbD 7) (v.getLsbD 6) (v.getLsbD 5) (v.getLsbD 4) 0 := by
  apply BitVec.eq_of_getLsbD_eq
  intro i hi
  rw [getLsbD_flagByte, BitVec.getLsbD_append]
  interval_cases i <;> simp

/-- A pair written reads back. -/
theorem readPair_writePair (p : Pair) (v : Word) (s : State) : readPair p (writePair p v s) = v := by
  cases p
  case sp => rfl
  all_goals exact word16_hi_lo v

/-- Settles O23: a pair is its two bytes put together; AF takes its flags from the word's bits 7 to 4. -/
theorem registersAndPairs : Obligations.RegistersAndPairs := by
  unfold Obligations.RegistersAndPairs
  intro s v x
  refine ⟨⟨rfl, rfl, rfl, rfl, rfl⟩, ⟨rfl, rfl, rfl, rfl, ?af⟩, fun p => readPair_writePair p v s,
    fun q r => readReg8_writeReg8 q r x s⟩
  case af => rw [writeStackPair, poppedFlags_eq, hiByte]

end Sys2Proof.Machine

namespace Sys2Proof.Machine

/-! ## The address map (R61, R63) -/

/-- An I/O address that is none of the twelve of R62 is no register of the core. -/
theorem ioReg_eq_none {n : Nat} (hio : n ≤ 0xFF7F)
    (h : n ∉ [0xFF0F, 0xFF40, 0xFF41, 0xFF42, 0xFF43, 0xFF44, 0xFF45, 0xFF47, 0xFF48, 0xFF49, 0xFF4A, 0xFF4B]) :
    ioReg n = none := by
  unfold ioReg
  split
  case h_13 => omega
  case h_14 => rfl
  all_goals simp at h

/-- An echo address is routed as the WRAM address 0x2000 lower (R63). -/
theorem route_echo {a : Word} (hlow : 0xE000 ≤ a.toNat) (hhigh : a.toNat ≤ 0xFDFF) :
    route a = route (a - 0x2000) := by
  have hsub : (a - 0x2000).toNat = a.toNat - 0x2000 := by bv_omega
  simp (disch := omega) only [route, hsub, if_pos, if_neg]

/-- Settles O18: each range decides the tests of the map one by one; what is left are the I/O addresses and IE. -/
theorem addressMap : Obligations.AddressMap := by
  unfold Obligations.AddressMap
  intro a
  dsimp only
  refine ⟨fun _ => ?rom, fun _ _ => ?vram, fun _ _ => ?cartRam, fun _ _ => ?wram,
    fun hlow hhigh => route_echo hlow hhigh, fun _ _ => ?oam, fun _ _ => ?unusable, fun _ hhigh hnone => ?io,
    fun _ _ => ?hram, fun hie => ?ie⟩
  case io =>
    have hio := ioReg_eq_none hhigh hnone
    simp (disch := omega) only [route, hio, if_neg]
  case ie =>
    have hreg : ioReg a.toNat = some .ie := congrArg ioReg hie
    simp (disch := omega) only [route, hreg, if_neg]
  all_goals simp (disch := omega) only [route, if_pos, if_neg]

/-! ## Reads (R64, R66, R67) -/

/-- The bus holds no settled byte exactly at a collaborator's address with nothing promised (R64, R66). -/
theorem byteAt_eq_none_iff (a : Word) (s : State) :
    byteAt a s = none ↔ ∃ who, route a = .ext who ∧ Memory.lookup s.bus.ext a.toNat = none := by
  unfold byteAt
  cases route a <;> simp

/-- A storage address holds the byte stored (R64). -/
theorem byteAt_of_storage {a : Word} {k : Nat} (h : route a = .storage k) (s : State) :
    byteAt a s = some (Memory.read s.bus.mem k) := by
  simp [byteAt, h]

/-- An open read is a draw and counts one (R66). -/
theorem memRead_of_open {a : Word} {s : State} (h : byteAt a s = none) :
    memRead a s = (Config.extAnswer s.bus.draws a, { s with bus.draws := s.bus.draws + 1 }) := by
  simp [memRead, h]

/-- Settles O20: a read follows `byteAt`, and `byteAt` is open only where nothing is promised. -/
theorem readsHaveNoEffect : Obligations.ReadsHaveNoEffect := by
  unfold Obligations.ReadsHaveNoEffect
  intro s a
  exact ⟨fun _ => memRead_of_byteAt, memRead_of_open, byteAt_eq_none_iff a s, fun _ h => byteAt_of_storage h s⟩

/-! ## The driver after a fault (R239, R285) -/

/-- The fault is added to the log of the state in which the opcode's byte has been read. -/
theorem afterFault_eq_memRead (r : Fault) (s : State) :
    afterFault r s = { (memRead (takeMoves s).cpu.pc (takeMoves s)).2 with
      env.faultLog := (takeMoves s).env.faultLog ++ [r] } := by
  simp [afterFault]

/-- Settles O9: `skip` moves the PC of the logged state past the opcode's byte; the other two policies end the run in
that state. -/
theorem driverFaultPolicies : Obligations.DriverFaultPolicies := by
  unfold Obligations.DriverFaultPolicies
  intro s r hfault
  dsimp only
  constructor
  · intro hskip
    simp [driverStep, hfault, hskip, skipInvalid, setPc, afterFault_eq_memRead]
  · intro hends
    cases hpolicy : s.env.cfg.faultPolicy with
    | skip => exact absurd hpolicy hends
    | halt => simp [driverStep, hfault, hpolicy, afterFault_eq_memRead]
    | abort => simp [driverStep, hfault, hpolicy, afterFault_eq_memRead]

/-! ## What a write touches (R62, R63, R65) -/

@[simp] theorem writeIoReg_bus (r : IoReg) (v : Byte) (s : State) : (writeIoReg r v s).bus = s.bus := by
  cases r <;> rfl

/-- A register reads as before after a write to another one; but a write to LYC can change bit 2 of STAT (R34). -/
theorem readIoReg_writeIoReg_other {q r : IoReg} (hne : q ≠ r) (hstat : q = .lyc → r ≠ .stat) (v : Byte)
    (s : State) : readIoReg r (writeIoReg q v s) = readIoReg r s := by
  cases q
  case ly => rfl
  case lyc =>
    cases r
    case lyc => exact absurd rfl hne
    case stat => exact absurd rfl (hstat rfl)
    all_goals rfl
  all_goals cases r <;> first | rfl | exact absurd rfl hne

/-- Every byte that a write does not touch reads as before. -/
theorem byteAt_memWrite_untouched {a b : Word} {s : State} (v : Byte) (hinv : BusInv s)
    (h : Forms.touches a b = false) : byteAt b (memWrite a v s) = byteAt b s := by
  cases ha : route a with
  | storage k =>
    have hother : route b ≠ .storage k := fun hb => by simp [Forms.touches, ha, hb] at h
    rw [byteAt_memWrite_storage hinv ha, if_neg hother]
  | reg q =>
    rw [memWrite_of_reg ha]
    cases hb : route b with
    | storage k => rw [byteAt_of_storage hb, byteAt_of_storage hb, writeIoReg_bus]
    | ext who => simp [byteAt, hb]
    | reg r =>
      have hne : q ≠ r := by
        rintro rfl
        cases q <;> simp [Forms.touches, ha, hb] at h
      have hstat : q = .lyc → r ≠ .stat := by
        rintro rfl rfl
        simp [Forms.touches, ha, hb] at h
      rw [byteAt_of_reg hb, byteAt_of_reg hb, readIoReg_writeIoReg_other hne hstat]
  | ext who =>
    simp only [memWrite, ha]
    exact byteAt_congr rfl rfl rfl rfl b

/-- Settles O21: the read-back and the frame by the route of the written address; storage stays canonical by
`memWrite_wf`. -/
theorem writesTouchOnlyTheirByte : Obligations.WritesTouchOnlyTheirByte := by
  unfold Obligations.WritesTouchOnlyTheirByte
  intro s a b v hinv
  refine ⟨fun k ha hb => ?back, byteAt_memWrite_untouched v hinv, fun k ha => ⟨?frame, memWrite_wf hinv⟩,
    fun who ha => ?handed⟩
  case back => rw [byteAt_memWrite_storage hinv ha, if_pos hb]
  case frame => simp [memWrite, ha]
  case handed => simp [memWrite, ha]

end Sys2Proof.Machine

namespace Sys2Proof.Machine

/-! ## The stack (R140) -/

@[simp] theorem byteAt_setSp (a b : Word) (s : State) : byteAt b (setSp a s) = byteAt b s :=
  byteAt_congr rfl rfl rfl rfl b

@[simp] theorem byteAt_setPc (a b : Word) (s : State) : byteAt b (setPc a s) = byteAt b s :=
  byteAt_congr rfl rfl rfl rfl b

@[simp] theorem setSp_setSp (a b : Word) (s : State) : setSp b (setSp a s) = setSp b s := rfl

/-- A write of the bus and a write of SP commute. -/
theorem memWrite_setSp (a sp : Word) (v : Byte) (s : State) :
    memWrite a v (setSp sp s) = setSp sp (memWrite a v s) := by
  unfold memWrite
  cases route a with
  | storage k => rfl
  | reg r => cases r <;> rfl
  | ext who => rfl

/-- A push is its two writes, the high byte's first, with SP two lower (R140). -/
theorem push16_eq_memWrite (v : Word) (s : State) :
    push16 v s = memWrite (s.cpu.sp - 2) (loByte v) (memWrite (s.cpu.sp - 1) (hiByte v) (setSp (s.cpu.sp - 2) s)) := by
  have hsp : s.cpu.sp - 1#16 - 1#16 = s.cpu.sp - 2#16 := by bv_omega
  simp [push16, hsp, memWrite_setSp]

/-- Every byte that neither write of a push touches reads as before. -/
theorem byteAt_push16_untouched {b : Word} {s : State} (v : Word) (hinv : BusInv s)
    (h : ∀ a ∈ Forms.pushedAt s, Forms.touches a b = false) : byteAt b (push16 v s) = byteAt b s := by
  obtain ⟨hhi, hlo⟩ : Forms.touches (s.cpu.sp - 1) b = false ∧ Forms.touches (s.cpu.sp - 2) b = false := by
    simpa [Forms.pushedAt] using h
  have hmoved : BusInv (setSp (s.cpu.sp - 2) s) := hinv
  rw [push16_eq_memWrite, byteAt_memWrite_untouched _ (memWrite_wf hmoved) hlo,
    byteAt_memWrite_untouched _ hmoved hhi, byteAt_setSp]

/-- A storage byte has its own address and, in WRAM, the echo 0x2000 higher (R61, R63). -/
theorem toNat_of_route_storage {a : Word} {k : Nat} (h : route a = .storage k) :
    a.toNat = k ∨ a.toNat = k + 0x2000 := by
  simp only [route] at h
  generalize ioReg a.toNat = o at h
  generalize a.toNat = n at h ⊢
  split_ifs at h
  case neg => cases o <;> cases h
  all_goals
    have := Route.storage.inj h
    omega

/-- Adjacent addresses name different bytes of storage. -/
theorem storage_ne_of_adjacent {a : Word} {j k : Nat} (ha : route (a - 1) = .storage j)
    (hb : route (a - 2) = .storage k) : k ≠ j := by
  have hj := toNat_of_route_storage ha
  have hk := toNat_of_route_storage hb
  have hnot : a - 1 ≠ 0 := by
    intro h
    rw [h] at ha
    cases ha
  bv_omega

/-- A word pushed to storage stands with its high byte at SP-1 and its low byte at SP-2 (R70, R140). -/
theorem byteAt_push16_storage {s : State} {j k : Nat} (v : Word) (hinv : BusInv s)
    (hj : route (s.cpu.sp - 1) = .storage j) (hk : route (s.cpu.sp - 2) = .storage k) :
    byteAt (s.cpu.sp - 1) (push16 v s) = some (hiByte v) ∧ byteAt (s.cpu.sp - 2) (push16 v s) = some (loByte v) := by
  have hmoved : BusInv (setSp (s.cpu.sp - 2) s) := hinv
  have hother : route (s.cpu.sp - 1) ≠ .storage k := by
    rw [hj]
    exact fun h => storage_ne_of_adjacent hj hk (Route.storage.inj h).symm
  have hsecond := byteAt_memWrite_storage (v := loByte v) (memWrite_wf (v := hiByte v) (a := s.cpu.sp - 1) hmoved) hk
  rw [push16_eq_memWrite, hsecond, hsecond, if_neg hother, if_pos hk, byteAt_memWrite_storage hmoved hj, if_pos hj]
  exact ⟨rfl, rfl⟩

/-! ## A dispatch (R233) -/

/-- IF has one address among the registers of R62. -/
theorem ioReg_eq_ifr {n : Nat} (h : ioReg n = some .ifr) : n = 0xFF0F := by
  unfold ioReg at h
  split at h
  case h_1 => rfl
  all_goals cases h

/-- No other address than 0xFF0F is routed to IF (R62). -/
theorem route_ne_ifr {a : Word} (h : a ≠ 0xFF0F) : route a ≠ .reg .ifr := by
  have hn : ioReg a.toNat ≠ some .ifr := fun hio => h (BitVec.eq_of_toNat_eq (ioReg_eq_ifr hio))
  simp only [route]
  generalize ioReg a.toNat = o at hn ⊢
  split_ifs
  case neg =>
    cases o with
    | none => nofun
    | some r => exact fun hr => hn (congrArg some (Route.reg.inj hr))
  all_goals nofun

/-- Clearing a request leaves every byte but IF (R241). -/
theorem byteAt_ack {b : Word} (h : b ≠ 0xFF0F) (k : Nat) (s : State) : byteAt b (ack k s) = byteAt b s := by
  cases hb : route b with
  | storage j => rw [byteAt_of_storage hb, byteAt_of_storage hb, ack_bus]
  | ext who => simp [byteAt, hb]
  | reg r =>
    rw [byteAt_of_reg hb, byteAt_of_reg hb]
    cases r
    case ifr => exact absurd hb (route_ne_ifr h)
    all_goals rfl

theorem lowestSet_lt (p : BitVec 5) : lowestSet p < 5 := by
  unfold lowestSet
  split_ifs <;> decide

theorem vector_mem {k : Nat} (h : k < 5) : vector k ∈ [0x0040, 0x0048, 0x0050, 0x0058, 0x0060] := by
  interval_cases k <;> decide

/-- The state in which a dispatch pushes PC: the request is acknowledged; IME, the pending EI and `halted` are cleared
(R233). -/
def dispatching (s : State) : State :=
  ack (lowestSet (pendingAndEnabled s)) { s with cpu.ime := false, cpu.eiDelay := 0, cpu.halted := false }

theorem byteAt_takeInterrupt (b : Word) (s : State) :
    byteAt b (takeInterrupt s) = byteAt b (push16 s.cpu.pc (dispatching s)) :=
  byteAt_setPc _ _ _

/-- Settles O47: the CPU by its fields; the bytes by the push, after the acknowledgement that only IF shows. -/
theorem dispatchSavesOnlyPc : Obligations.DispatchSavesOnlyPc := by
  unfold Obligations.DispatchSavesOnlyPc
  intro s hinv _
  dsimp only
  have hready : BusInv (dispatching s) := hinv
  refine ⟨⟨?cpu, ?vector⟩, fun j k hj hk => ?saved, fun b hif hhi hlo => ?frame⟩
  case cpu => rw [takeInterrupt_cpu]
  case vector =>
    rw [takeInterrupt_cpu]
    exact vector_mem (lowestSet_lt _)
  case saved =>
    rw [byteAt_takeInterrupt, byteAt_takeInterrupt]
    exact byteAt_push16_storage (s := dispatching s) s.cpu.pc hready hj hk
  case frame =>
    have hpushed : ∀ a ∈ Forms.pushedAt (dispatching s), Forms.touches a b = false := by
      simpa [Forms.pushedAt, dispatching] using ⟨hhi, hlo⟩
    rw [byteAt_takeInterrupt, byteAt_push16_untouched _ hready hpushed, dispatching, byteAt_ack hif]
    exact byteAt_congr rfl rfl rfl rfl b

end Sys2Proof.Machine

namespace Sys2Proof.Machine

/-! ## What an instruction stores to (R67, R122 to R142, R158, R159, R178, R206, R207, R211) -/

/-! ### The updates that reach no byte of the bus -/

@[simp] theorem byteAt_cpuUpdate (c : Cpu) (b : Word) (s : State) : byteAt b { s with cpu := c } = byteAt b s :=
  byteAt_congr rfl rfl rfl rfl b

@[simp] theorem byteAt_setCycles (n : Nat) (b : Word) (s : State) : byteAt b (setCycles n s) = byteAt b s :=
  byteAt_congr rfl rfl rfl rfl b

@[simp] theorem byteAt_writeFlags (z n h c : Option Bool) (b : Word) (s : State) :
    byteAt b (writeFlags z n h c s) = byteAt b s :=
  byteAt_congr rfl rfl rfl rfl b

@[simp] theorem byteAt_writeReg8 (r : Reg8) (v : Byte) (b : Word) (s : State) :
    byteAt b (writeReg8 r v s) = byteAt b s :=
  byteAt_congr (by simp) (by simp) (by simp) (by simp) b

@[simp] theorem byteAt_writePair (p : Pair) (v : Word) (b : Word) (s : State) :
    byteAt b (writePair p v s) = byteAt b s :=
  byteAt_congr (by simp) (by simp) (by simp) (by simp) b

@[simp] theorem byteAt_writeStackPair (p : StackPair) (v : Word) (b : Word) (s : State) :
    byteAt b (writeStackPair p v s) = byteAt b s :=
  byteAt_congr (by simp) (by simp) (by simp) (by simp) b

@[simp] theorem byteAt_pop16 (b : Word) (s : State) : byteAt b (pop16 s).2 = byteAt b s :=
  byteAt_congr (by simp) (by simp) (by simp) (by simp) b

@[simp] theorem readSrc8_mem (x : Src8) (s : State) : (readSrc8 x s).2.bus.mem = s.bus.mem := by
  cases x <;> simp [readSrc8]

@[simp] theorem byteAt_readSrc8 (x : Src8) (b : Word) (s : State) : byteAt b (readSrc8 x s).2 = byteAt b s := by
  cases x <;> simp [readSrc8]

@[simp] theorem readPlace8_mem (x : Place8) (s : State) : (readPlace8 x s).2.bus.mem = s.bus.mem := by
  cases x <;> simp [readPlace8]

@[simp] theorem byteAt_readPlace8 (x : Place8) (b : Word) (s : State) : byteAt b (readPlace8 x s).2 = byteAt b s := by
  cases x <;> simp [readPlace8]

/-! ### The shared operations, each with the addresses it stores to -/

/-- The addresses that a write of an operand stores to: HL, or none for a register (R92). -/
def placeStores (x : Place8) (s : State) : List Word :=
  match x with
  | .reg _ => []
  | .atHl => [hlAddr s]

/-- Every byte that a write of an operand does not touch reads as before. -/
theorem byteAt_writePlace8_untouched {x : Place8} {b : Word} {s u : State} (v : Byte) (hcpu : u.cpu = s.cpu)
    (hmem : u.bus.mem = s.bus.mem) (hinv : BusInv s)
    (h : ∀ a ∈ placeStores x s, Forms.touches a b = false) : byteAt b (writePlace8 x v u) = byteAt b u := by
  cases x with
  | reg r => exact byteAt_writeReg8 r v b u
  | atHl =>
    have haddr : hlAddr u = hlAddr s := by rw [hlAddr, hcpu, hlAddr]
    have hhl : Forms.touches (hlAddr u) b = false := haddr ▸ h _ (List.mem_singleton.mpr rfl)
    have hready : BusInv u := by rwa [BusInv, hmem]
    exact byteAt_memWrite_untouched v hready hhl

/-- An operand read and then written back, as INC, DEC and the CB page do. -/
theorem byteAt_readWritePlace8_untouched {x : Place8} {b : Word} {s : State} (v : Byte) (hinv : BusInv s)
    (h : ∀ a ∈ placeStores x s, Forms.touches a b = false) :
    byteAt b (writePlace8 x v (readPlace8 x s).2) = byteAt b s :=
  (byteAt_writePlace8_untouched v (readPlace8_cpu x s) (readPlace8_mem x s) hinv h).trans (byteAt_readPlace8 x b s)

/-- `Stores s as t`: one of the shared operations takes `s` to `t`, and `as` are the addresses that the rule of that
operation stores to. -/
inductive Stores : State → List Word → State → Prop where
  | ld8 (s dst src n) : Stores s (placeStores dst s) (opLd8 dst src n s)
  | inc (s x) : Stores s (placeStores x s) (opInc x s)
  | dec (s x) : Stores s (placeStores x s) (opDec x s)
  | rotate (s op x) : Stores s (placeStores x s) (opRotate op x s)
  | res (s b x) : Stores s (placeStores x s) (opRes b x s)
  | set (s b x) : Stores s (placeStores x s) (opSet b x s)
  | storeA (s a n) : Stores s [a] (opStoreA a n s)
  | storeABump (s a n d) : Stores s [a] (bumpHl d (opStoreA a n s))
  | storeSp (s a) : Stores s [a, a + 1] (opStoreSp a s)
  | push (s p) : Stores s (Forms.pushedAt s) (opPush p s)
  | call (s a) : Stores s (Forms.pushedAt s) (opCall a s)
  | callCc (s cc a) : Stores s (if condHolds cc s then Forms.pushedAt s else []) (opCallCc cc a s)
  | rst (s y) : Stores s (Forms.pushedAt s) (opRst y s)
  | loadA (s a n) : Stores s [] (opLoadA a n s)
  | loadABump (s a n d) : Stores s [] (bumpHl d (opLoadA a n s))
  | ldPair (s p d) : Stores s [] (opLdPair p d s)
  | ldSpHl (s) : Stores s [] (opLdSpHl s)
  | pop (s p) : Stores s [] (opPop p s)
  | alu (s op src) : Stores s [] (opAlu op src s)
  | daa (s) : Stores s [] (opDaa s)
  | cpl (s) : Stores s [] (opCpl s)
  | scf (s) : Stores s [] (opScf s)
  | ccf (s) : Stores s [] (opCcf s)
  | incPair (s p) : Stores s [] (opIncPair p s)
  | decPair (s p) : Stores s [] (opDecPair p s)
  | addHl (s p) : Stores s [] (opAddHl p s)
  | addSp (s e8) : Stores s [] (opAddSp e8 s)
  | ldHlSp (s e8) : Stores s [] (opLdHlSp e8 s)
  | rotateA (s op) : Stores s [] (opRotateA op s)
  | bit (s b x) : Stores s [] (opBit b x s)
  | jp (s a) : Stores s [] (opJp a s)
  | jpCc (s cc a) : Stores s [] (opJpCc cc a s)
  | jpHl (s) : Stores s [] (opJpHl s)
  | jr (s e8) : Stores s [] (opJr e8 s)
  | jrCc (s cc e8) : Stores s [] (opJrCc cc e8 s)
  | ret (s) : Stores s [] (opRet s)
  | retCc (s cc) : Stores s [] (opRetCc cc s)
  | reti (s) : Stores s [] (opReti s)
  | nop (s) : Stores s [] (opNop s)
  | halt (s) : Stores s [] (opHalt s)
  | stop (s) : Stores s [] (opStop s)
  | di (s) : Stores s [] (opDi s)
  | ei (s) : Stores s [] (opEi s)

/-- The addresses of the operation that was found are those that the rule of the instruction computes. -/
theorem Stores.of_addresses {s t : State} {as bs : List Word} (h : Stores s as t) (hab : bs = as) : Stores s bs t :=
  hab ▸ h

/-- Of the eight operand codes only 6 is the byte at HL (R92). -/
theorem placeStores_placeOfCode {z : Nat} (hz : z < 8) (s : State) :
    placeStores (placeOfCode z) s = if z = 6 then [hlAddr s] else [] := by
  interval_cases z <;> rfl

/-- The escape stores at HL for the operand code 6, unless it is BIT (R178, R192, R226). -/
theorem opCbPage_stores (cb : Byte) (s : State) :
    Stores s (if cb.toNat % 8 = 6 ∧ cb.toNat / 64 ≠ 1 then [hlAddr s] else []) (opCbPage cb s) := by
  have hplace := placeStores_placeOfCode (Nat.mod_lt cb.toNat (by decide : 8 > 0)) s
  generalize hstored : (if cb.toNat % 8 = 6 ∧ cb.toNat / 64 ≠ 1 then [hlAddr s] else []) = stored
  have hwrites (h : cb.toNat / 64 ≠ 1) : stored = placeStores (placeOfCode (cb.toNat % 8)) s := by
    simp [← hstored, hplace, h]
  unfold opCbPage
  dsimp only
  split
  case h_1 h => exact (Stores.rotate ..).of_addresses (hwrites (by omega))
  case h_2 h => exact (Stores.bit ..).of_addresses (by simp [← hstored, h])
  case h_3 h => exact (Stores.res ..).of_addresses (hwrites (by omega))
  case h_4 h _ => exact (Stores.set ..).of_addresses (hwrites h)

/-- An instruction that completes stores to the addresses that its rule names. -/
theorem exec_stores {i : Instr} {s t : State} (h : exec i s = .next t) : Stores s (Forms.storesTo i s) t := by
  cases i <;> cases h
  case prefix_cb.refl cb => exact opCbPage_stores cb s
  all_goals
    apply Stores.of_addresses
    case h => with_reducible constructor
    case hab => rfl

/-- Every byte that no stored-to address touches reads as before. -/
theorem Stores.byteAt_untouched {s t : State} {as : List Word} (e : Stores s as t) (hinv : BusInv s) {b : Word}
    (h : ∀ a ∈ as, Forms.touches a b = false) : byteAt b t = byteAt b s := by
  cases e
  -- the operands written at HL
  case ld8 dst src n =>
    exact (byteAt_writePlace8_untouched _ (readSrc8_cpu src s) (readSrc8_mem src s) hinv h).trans (byteAt_readSrc8 ..)
  case inc x => simpa [opInc] using byteAt_readWritePlace8_untouched _ hinv h
  case dec x => simpa [opDec] using byteAt_readWritePlace8_untouched _ hinv h
  case rotate op x => simpa [opRotate] using byteAt_readWritePlace8_untouched _ hinv h
  case res n x => simpa [opRes] using byteAt_readWritePlace8_untouched _ hinv h
  case set n x => simpa [opSet] using byteAt_readWritePlace8_untouched _ hinv h
  -- the stores to an address
  case storeA a n => simpa [opStoreA] using byteAt_memWrite_untouched s.cpu.a hinv (h a (by simp))
  case storeABump a n d => simpa [bumpHl, opStoreA] using byteAt_memWrite_untouched s.cpu.a hinv (h a (by simp))
  case storeSp a =>
    rw [opStoreSp, byteAt_setCycles, byteAt_memWrite_untouched _ (memWrite_wf hinv) (h (a + 1) (by simp)),
      byteAt_memWrite_untouched _ hinv (h a (by simp))]
  -- the pushes
  case push p => simpa [opPush] using byteAt_push16_untouched _ hinv h
  case call a => simpa [opCall, callTo] using byteAt_push16_untouched _ hinv h
  case rst y => simpa [opRst, callTo] using byteAt_push16_untouched _ hinv h
  case callCc cc a =>
    unfold opCallCc
    split
    case isTrue hcc =>
      rw [if_pos hcc] at h
      simpa [callTo] using byteAt_push16_untouched _ hinv h
    case isFalse => exact byteAt_setCycles ..
  -- the rest stores nothing
  case alu => unfold opAlu; dsimp only; split <;> simp
  case jpCc => unfold opJpCc; split <;> simp
  case jrCc => unfold opJrCc; split <;> simp
  case retCc => unfold opRetCc; split <;> simp [returnTo]
  case halt => unfold opHalt; split <;> simp
  case ei => unfold opEi; split <;> simp
  case reti => rw [opReti, byteAt_setCycles, returnFromInterrupt, byteAt_cpuUpdate, byteAt_pop16]
  all_goals simp [opLoadA, bumpHl, opLdPair, opLdSpHl, opPop, opDaa, opCpl, opScf, opCcf,
    opIncPair, opDecPair, opAddHl, opAddSp, opLdHlSp, opRotateA, opBit, opJp, opJpHl, opJr, opRet, returnTo, opNop,
    opStop, opDi]

/-- Settles O43: each instruction stores by one of the shared operations, at the addresses of its row. -/
theorem storesTouchOnlyTheirBytes : Obligations.StoresTouchOnlyTheirBytes := by
  unfold Obligations.StoresTouchOnlyTheirBytes
  intro i s t hinv hnext b h
  exact (exec_stores hnext).byteAt_untouched hinv h

end Sys2Proof.Machine

namespace Sys2Proof.Machine

/-! ## Decoder and encoder (R90, R91, R96 to R98, R104 to R107) -/

/-! ### The decoder on a byte list, by the length its first byte fixes -/

/-- An instruction has one, two or three bytes. -/
theorem opLength_cases (op : Byte) : opLength op = 1 ∨ opLength op = 2 ∨ opLength op = 3 := by
  unfold opLength
  split
  · exact .inr (.inr rfl)
  · split
    · exact .inr (.inl rfl)
    · exact .inl rfl

theorem decode_of_opLength_three {op : Byte} (h : opLength op = 3) (b1 b2 : Byte) (rest : List Byte) :
    decode (op :: b1 :: b2 :: rest) = .ok (decodeBytes op b1 b2, rest) := by
  simp [decode, h]

/-- Where decoding succeeds, it has read the bytes of `decodeBytes` that the length takes, and left the others. -/
theorem eq_take_opLength_of_decode {bytes rest : List Byte} {i : Instr} (h : decode bytes = .ok (i, rest)) :
    ∃ op b1 b2, i = decodeBytes op b1 b2 ∧ [op, b1, b2].take (opLength op) ++ rest = bytes := by
  unfold decode at h
  split at h
  case h_1 => cases h
  case h_2 op after =>
    split at h
    case h_1 hlen =>
      cases h
      exact ⟨op, 0, 0, rfl, by simp [hlen]⟩
    case h_2 b1 _ hlen =>
      cases h
      exact ⟨op, b1, 0, rfl, by simp [hlen]⟩
    case h_3 b1 b2 _ hlen =>
      cases h
      exact ⟨op, b1, b2, rfl, by simp [hlen]⟩
    case h_4 => cases h

/-! ### The forms with a word operand: its low byte comes first (R98) -/

theorem decode_wordOperand {op : Byte} {form : Word → Instr} (hop : opLength op = 3)
    (hform : ∀ b1 b2, decodeBytes op b1 b2 = form (word16 b2 b1)) (w : Word) (rest : List Byte) :
    decode ([op, loByte w, hiByte w] ++ rest) = .ok (form w, rest) := by
  have h := decode_of_opLength_three hop (loByte w) (hiByte w) rest
  rwa [hform, word16_hi_lo] at h

theorem encode_wordOperand {op : Byte} {form : Word → Instr}
    (hform : ∀ w, encode (form w) = [op, loByte w, hiByte w]) (b1 b2 : Byte) :
    encode (form (word16 b2 b1)) = [op, b1, b2] := by
  rw [hform, loByte_word16, hiByte_word16]

/-! ### The two round trips -/

/-- Of the rows of the opcode table, those with a word operand need that a word is its two bytes; in every other row the
decoder puts the bytes back as they stand. -/
theorem decode_encode_append {i : Instr} (h : WellFormed i) (rest : List Byte) :
    decode (encode i ++ rest) = .ok (i, rest) := by
  cases i with
  | prefix_cb cb => cases h
  | ld_bc_d16 w | ld_atA16_sp w | ld_de_d16 w | ld_hl_d16 w | ld_sp_d16 w | jp_nz_a16 w | jp_a16 w | call_nz_a16 w
  | jp_z_a16 w | call_z_a16 w | call_a16 w | jp_nc_a16 w | call_nc_a16 w | jp_c_a16 w | call_c_a16 w
  | ld_atA16_a w | ld_a_atA16 w => exact decode_wordOperand rfl (fun _ _ => rfl) w rest
  | _ => rfl

/-- Settles O1, row by row. -/
theorem decodeAfterEncode : Obligations.DecodeAfterEncode := by
  unfold Obligations.DecodeAfterEncode
  exact fun i rest hwf => decode_encode_append hwf rest

/-- The CB page: 0xCB and any byte after it are an instruction, encoded as these two (R96, R105). -/
theorem wellFormed_encode_decodeCb (cb : Byte) :
    WellFormed (decodeCb cb) ∧ encode (decodeCb cb) = [0xCB, cb] := by
  revert cb
  decide

/-- The base map: every opcode byte begins an instruction, which is encoded as that byte and as many of the next two as
its length takes (R90, R104). The rows without a word operand evaluate to their bytes as they stand, then come the rows
with one; the row that is left is 0xCB, whose instruction the CB page gives. -/
theorem wellFormed_encode_decodeBytes (op b1 b2 : Byte) :
    WellFormed (decodeBytes op b1 b2) ∧ encode (decodeBytes op b1 b2) = [op, b1, b2].take (opLength op) := by
  obtain ⟨n, hn, rfl⟩ : ∃ n < 256, op = BitVec.ofNat 8 n := ⟨op.toNat, op.isLt, by simp⟩
  interval_cases n
  any_goals exact ⟨rfl, rfl⟩
  any_goals exact ⟨rfl, encode_wordOperand (fun _ => rfl) b1 b2⟩
  exact wellFormed_encode_decodeCb b1

theorem wellFormed_decodeBytes (op b1 b2 : Byte) : WellFormed (decodeBytes op b1 b2) :=
  (wellFormed_encode_decodeBytes op b1 b2).1

theorem encode_decodeBytes (op b1 b2 : Byte) :
    encode (decodeBytes op b1 b2) = [op, b1, b2].take (opLength op) :=
  (wellFormed_encode_decodeBytes op b1 b2).2

/-- Settles O2: the bytes read are those of `decodeBytes`, which encodes back to them. -/
theorem encodeAfterDecode : Obligations.EncodeAfterDecode := by
  unfold Obligations.EncodeAfterDecode
  intro bytes i rest h
  obtain ⟨op, b1, b2, rfl, hbytes⟩ := eq_take_opLength_of_decode h
  exact ⟨wellFormed_decodeBytes op b1 b2, by rw [encode_decodeBytes, hbytes]⟩

/-- Every well-formed instruction is what the decoder gives for some three bytes. -/
theorem exists_decodeBytes_of_wellFormed {i : Instr} (h : WellFormed i) : ∃ op b1 b2, i = decodeBytes op b1 b2 := by
  obtain ⟨op, b1, b2, hi, -⟩ := eq_take_opLength_of_decode (decode_encode_append h [])
  exact ⟨op, b1, b2, hi⟩

/-! ### The first byte: the length, and the eleven undefined opcodes (R90, R106) -/

theorem length_decodeBytes (op b1 b2 : Byte) : (decodeBytes op b1 b2).length = opLength op := by
  rw [Instr.length, encode_decodeBytes, List.length_take]
  obtain h | h | h := opLength_cases op <;> simp [h]

/-- Decoding three bytes gives the instruction of all three, although it reads only as many as the length takes. -/
theorem decode_three_bytes (op b1 b2 : Byte) :
    decode [op, b1, b2] = .ok (decodeBytes op b1 b2, [op, b1, b2].drop (opLength op)) := by
  have h := decode_encode_append (wellFormed_decodeBytes op b1 b2) ([op, b1, b2].drop (opLength op))
  rwa [encode_decodeBytes, List.take_append_drop] at h

/-- The bytes after a one-byte instruction do not matter to it. -/
theorem decodeBytes_of_opLength_one {op : Byte} (h : opLength op = 1) (b1 b2 : Byte) :
    decodeBytes op b1 b2 = decodeBytes op 0 0 := by
  simpa [decode, h] using (decode_three_bytes op b1 b2).symm

/-- The byte after a two-byte instruction does not matter to it. -/
theorem decodeBytes_of_opLength_two {op : Byte} (h : opLength op = 2) (b1 b2 : Byte) :
    decodeBytes op b1 b2 = decodeBytes op b1 0 := by
  simpa [decode, h] using (decode_three_bytes op b1 b2).symm

theorem encode_of_mem_undefined : ∀ x ∈ Forms.undefined, encode x.2 = [x.1] := by decide

theorem decodeBytes_of_mem_undefined (b1 b2 : Byte) : ∀ x ∈ Forms.undefined, decodeBytes x.1 b1 b2 = x.2 := by
  intro x hx
  fin_cases hx <;> rfl

theorem decodeBytes_mem_undefined_iff (op b1 b2 : Byte) :
    decodeBytes op b1 b2 ∈ Forms.undefined.map Prod.snd ↔ op ∈ Forms.undefined.map Prod.fst := by
  rw [List.mem_map, List.mem_map]
  constructor
  · rintro ⟨x, hx, heq⟩
    have hbytes : [op, b1, b2].take (opLength op) = [x.1] := by
      rw [← encode_decodeBytes, ← heq, encode_of_mem_undefined x hx]
    refine ⟨x, hx, ?_⟩
    obtain h | h | h := opLength_cases op <;> simp [h] at hbytes
    exact hbytes.symm
  · rintro ⟨x, hx, rfl⟩
    exact ⟨x, hx, (decodeBytes_of_mem_undefined b1 b2 x hx).symm⟩

theorem isIllegal_iff_mem_undefined (op : Byte) : isIllegal op = true ↔ op ∈ Forms.undefined.map Prod.fst := by
  revert op
  decide

/-- Settles O3: the length of what is decoded is `opLength` of the first byte. -/
theorem firstByteFixesTheLength : Obligations.FirstByteFixesTheLength := by
  unfold Obligations.FirstByteFixesTheLength
  intro op b1 b2 c1 c2
  simp only [length_decodeBytes]
  refine ⟨trivial, ?_, decode_three_bytes op b1 b2, decodeBytes_mem_undefined_iff op b1 b2⟩
  simpa using opLength_cases op

end Sys2Proof.Machine

namespace Sys2Proof.Machine

/-! ## The fetch of settled bytes, and the step that runs what was fetched (R97, R230, R231) -/

@[simp] theorem setPc_setPc (v w : Word) (s : State) : setPc v (setPc w s) = setPc v s := rfl

theorem fetch8_of_byteAt {s : State} {v : Byte} (h : byteAt s.cpu.pc s = some v) :
    fetch8 s = (v, setPc (s.cpu.pc + 1) s) := by
  simp [fetch8, memRead_of_byteAt h]

theorem fetchOpcode_of_byteAt {s : State} {op : Byte} (h : byteAt s.cpu.pc s = some op)
    (hlatch : s.cpu.haltBugLatch = false) : fetchOpcode s = (op, setPc (s.cpu.pc + 1) s) := by
  simp [fetchOpcode, memRead_of_byteAt h, hlatch]

theorem fetchOpcode_of_haltBugLatch {s : State} {op : Byte} (h : byteAt s.cpu.pc s = some op)
    (hlatch : s.cpu.haltBugLatch = true) : fetchOpcode s = (op, { s with cpu.haltBugLatch := false }) := by
  simp [fetchOpcode, memRead_of_byteAt h, hlatch]

/-- After the opcode of a defined instruction, the fetch takes the bytes that follow from where PC then stands. -/
theorem fetchInstr_of_fetchOpcode {s s1 : State} {op b1 b2 : Byte} (hop : fetchOpcode s = (op, s1))
    (hdefined : isIllegal op = false) (hb1 : 1 < opLength op → byteAt s1.cpu.pc s1 = some b1)
    (hb2 : 2 < opLength op → byteAt (s1.cpu.pc + 1) s1 = some b2) :
    fetchInstr s = (decodeBytes op b1 b2, setPc (s1.cpu.pc + BitVec.ofNat 16 (opLength op - 1)) s1) := by
  obtain h | h | h := opLength_cases op
  · have hstay : setPc (s1.cpu.pc + BitVec.ofNat 16 (opLength op - 1)) s1 = s1 := by simp [h, setPc]
    rw [hstay, decodeBytes_of_opLength_one h]
    simp [fetchInstr, hop, hdefined, h]
  · have hfetch := fetch8_of_byteAt (hb1 (by omega))
    simp [fetchInstr, hop, hdefined, h, decodeBytes_of_opLength_two h b1 b2, hfetch]
  · have hfetch1 := fetch8_of_byteAt (hb1 (by omega))
    have hfetch2 := fetch8_of_byteAt (s := setPc (s1.cpu.pc + 1) s1) ((byteAt_setPc _ _ s1).trans (hb2 (by omega)))
    rw [setPc_pc, setPc_setPc, BitVec.add_assoc] at hfetch2
    simp only [fetchInstr, hop, hdefined, h, hfetch1, hfetch2, Bool.false_eq_true, if_false]
    rfl

/-- A system step from what the meaning of the fetched instruction answers: the boundary, the interrupt check and the
PPU's advance after a completion, and a stop passed on (R230, R231). -/
def completeStep (r : Result) : Result :=
  match r with
  | .next t => .next (ppuAdvance (interruptCheck (boundary t)).cpu.cycles (interruptCheck (boundary t)))
  | .fault r => .fault r
  | .refused r => .refused r

theorem step_of_fetchInstr {s s1 : State} {i : Instr} (hmoves : s.env.moves = []) (hstopped : s.cpu.stopped = false)
    (hhalted : s.cpu.halted = false) (hfetch : fetchInstr s = (i, s1)) : step s = completeStep (exec i s1) := by
  have hcpu : cpuStep s = runInstr s := by simp [cpuStep, hstopped, hhalted]
  have htake : takeMoves s = s := by simp [takeMoves, hmoves]
  rw [step, htake, systemStep, hcpu, runInstr, hfetch]
  dsimp only
  cases exec i s1 <;> rfl

/-- Settles O5: the instruction is what its bytes decode to, and the fetch reads just these bytes. -/
theorem stepRunsDecodedInstruction : Obligations.StepRunsDecodedInstruction := by
  unfold Obligations.StepRunsDecodedInstruction
  intro i s hwf hdefined hmoves hstopped hhalted hlatch hbytes
  obtain ⟨op, b1, b2, rfl⟩ := exists_decodeBytes_of_wellFormed hwf
  rw [decodeBytes_mem_undefined_iff, ← isIllegal_iff_mem_undefined, Bool.not_eq_true] at hdefined
  rw [encode_decodeBytes] at hbytes
  have hread (k : Nat) (b : Byte) (hk : k < opLength op) (hb : [op, b1, b2][k]? = some b) :
      byteAt (s.cpu.pc + BitVec.ofNat 16 k) s = some b :=
    hbytes k b (by rwa [List.getElem?_take_of_lt hk])
  have hpos : 0 < opLength op := by have := opLength_cases op; omega
  have hop := fetchOpcode_of_byteAt (by simpa using hread 0 op hpos rfl) hlatch
  have hfetch := fetchInstr_of_fetchOpcode hop hdefined
    (fun h => by simpa using hread 1 b1 h rfl) (fun h => by simpa [BitVec.add_assoc] using hread 2 b2 h rfl)
  have hpc : s.cpu.pc + 1 + BitVec.ofNat 16 (opLength op - 1) =
      s.cpu.pc + BitVec.ofNat 16 (encode (decodeBytes op b1 b2)).length := by
    rw [show (encode (decodeBytes op b1 b2)).length = opLength op from length_decodeBytes op b1 b2, BitVec.add_assoc]
    obtain h | h | h := opLength_cases op <;> rw [h] <;> rfl
  rw [step_of_fetchInstr hmoves hstopped hhalted hfetch, setPc_pc, hpc]
  rfl

/-- Settles O6: the opcode fetch leaves PC at the opcode's byte, where the rest of the fetch begins. -/
theorem haltBugRepeatsTheByte : Obligations.HaltBugRepeatsTheByte := by
  unfold Obligations.HaltBugRepeatsTheByte
  intro s op b hmoves hstopped hhalted hlatch hop hnext hdefined
  have hfetch := fetchInstr_of_fetchOpcode (fetchOpcode_of_haltBugLatch hop hlatch) hdefined
    (fun _ => (byteAt_cpuUpdate _ _ s).trans hop) (fun _ => (byteAt_cpuUpdate _ _ s).trans hnext)
  rw [step_of_fetchInstr hmoves hstopped hhalted hfetch]
  rfl

end Sys2Proof.Machine

namespace Sys2Proof.Machine

/-! ## The spec's words (R104, R105) -/

/-- Settles O4: each word's bytes are run through the decoder. -/
theorem specWordsDecode : Obligations.SpecWordsDecode := by
  unfold Obligations.SpecWordsDecode
  exact ⟨rfl, rfl, rfl, rfl, rfl, rfl, rfl, rfl, rfl, rfl, rfl, rfl, rfl, rfl, rfl, rfl, rfl, rfl, rfl⟩

/-! ## The stack (R140, R141) -/

/-- A read of the bus and a write of SP commute. -/
theorem memRead_setSp (a sp : Word) (s : State) :
    memRead a (setSp sp s) = ((memRead a s).1, setSp sp (memRead a s).2) := by
  have hbyte : byteAt a (setSp sp s) = byteAt a s := byteAt_cpuUpdate _ a s
  unfold memRead
  rw [hbyte]
  cases byteAt a s <;> rfl

/-- A pop is its two reads, the low byte's first, with SP two higher (R141). -/
theorem pop16_eq_memRead (s : State) :
    pop16 s = (word16 (memRead (s.cpu.sp + 1) (memRead s.cpu.sp s).2).1 (memRead s.cpu.sp s).1,
      setSp (s.cpu.sp + 2) (memRead (s.cpu.sp + 1) (memRead s.cpu.sp s).2).2) := by
  have hsp : s.cpu.sp + 1#16 + 1#16 = s.cpu.sp + 2#16 := by bv_omega
  simp [pop16, hsp, memRead_setSp]

/-- A pop of settled bytes gives the word they form and changes only SP. -/
theorem pop16_of_byteAt {s : State} {lo hi : Byte} (hlo : byteAt s.cpu.sp s = some lo)
    (hhi : byteAt (s.cpu.sp + 1) s = some hi) : pop16 s = (word16 hi lo, setSp (s.cpu.sp + 2) s) := by
  rw [pop16_eq_memRead, memRead_of_byteAt hlo, memRead_of_byteAt hhi]

/-- Settles O22: a push is two writes, a pop two reads, and reads of settled bytes change nothing. -/
theorem stackPrimitives : Obligations.StackPrimitives := by
  unfold Obligations.StackPrimitives
  exact ⟨fun s v => push16_eq_memWrite v s, pop16_eq_memRead, fun _ _ _ hlo hhi => pop16_of_byteAt hlo hhi⟩

/-! ## The grouped forms: bytes and shared operation (R120 to R123, R137, R142, R143) -/

theorem encode_ldRegReg (dst r : Reg8) :
    encode (Forms.ldRegReg dst r) = [Forms.fieldsXYZ 1 (Forms.regCode dst) (Forms.regCode r)] := by
  cases dst <;> cases r <;> rfl

theorem exec_ldRegReg (dst r : Reg8) (s : State) :
    exec (Forms.ldRegReg dst r) s = .next (opLd8 (.reg dst) (.reg r) 4 s) := by
  cases dst <;> cases r <;> rfl

theorem encode_ldRegHl (dst : Reg8) :
    encode (Forms.ldRegHl dst) = [Forms.fieldsXYZ 1 (Forms.regCode dst) 6] := by
  cases dst <;> rfl

theorem exec_ldRegHl (dst : Reg8) (s : State) :
    exec (Forms.ldRegHl dst) s = .next (opLd8 (.reg dst) .atHl 8 s) := by
  cases dst <;> rfl

theorem encode_ldHlReg (r : Reg8) : encode (Forms.ldHlReg r) = [Forms.fieldsXYZ 1 6 (Forms.regCode r)] := by
  cases r <;> rfl

theorem exec_ldHlReg (r : Reg8) (s : State) : exec (Forms.ldHlReg r) s = .next (opLd8 .atHl (.reg r) 8 s) := by
  cases r <;> rfl

theorem encode_ldRegImm (dst : Reg8) (v : Byte) :
    encode (Forms.ldRegImm dst v) = [Forms.fieldsXYZ 0 (Forms.regCode dst) 6, v] := by
  cases dst <;> rfl

theorem exec_ldRegImm (dst : Reg8) (v : Byte) (s : State) :
    exec (Forms.ldRegImm dst v) s = .next (opLd8 (.reg dst) (.imm v) 8 s) := by
  cases dst <;> rfl

theorem encode_ldPairImm (p : Pair) (v : Word) :
    encode (Forms.ldPairImm p v) = [Forms.fieldsXPQZ 0 (Forms.pairCode p) 0 1, loByte v, hiByte v] := by
  cases p <;> rfl

theorem exec_ldPairImm (p : Pair) (v : Word) (s : State) :
    exec (Forms.ldPairImm p v) s = .next (opLdPair p v s) := by
  cases p <;> rfl

theorem encode_push (p : StackPair) : encode (Forms.push p) = [Forms.fieldsXPQZ 3 (Forms.stackCode p) 0 5] := by
  cases p <;> rfl

theorem exec_push (p : StackPair) (s : State) : exec (Forms.push p) s = .next (opPush p s) := by
  cases p <;> rfl

theorem encode_pop (p : StackPair) : encode (Forms.pop p) = [Forms.fieldsXPQZ 3 (Forms.stackCode p) 0 1] := by
  cases p <;> rfl

theorem exec_pop (p : StackPair) (s : State) : exec (Forms.pop p) s = .next (opPop p s) := by
  cases p <;> rfl

/-! ## The loads and stores (R120 to R139) -/

/-- Settles O24: each form is `opLd8`, which reads its source before it writes its destination. -/
theorem eightBitLoads : Obligations.EightBitLoads := by
  unfold Obligations.EightBitLoads
  intro s dst r v
  exact ⟨⟨encode_ldRegReg dst r, exec_ldRegReg dst r s⟩, ⟨encode_ldRegHl dst, exec_ldRegHl dst s⟩,
    ⟨encode_ldHlReg r, exec_ldHlReg r s⟩, ⟨encode_ldRegImm dst v, exec_ldRegImm dst v s⟩, ⟨rfl, rfl⟩⟩

/-- A load of A leaves HL, so that the step after it starts from the address that was read. -/
theorem hlAddr_opLoadA (a : Word) (n : Nat) (s : State) : hlAddr (opLoadA a n s) = hlAddr s := by
  simp [hlAddr, opLoadA, writeReg8]

/-- A store of A leaves HL, so that the step after it starts from the address that was written. -/
theorem hlAddr_opStoreA (a : Word) (n : Nat) (s : State) : hlAddr (opStoreA a n s) = hlAddr s := by
  simp [hlAddr, opStoreA]

/-- `LD A,(HL+)` and `LD A,(HL-)`: HL is stepped from its value before the load (R127, R128). -/
theorem bumpHl_opLoadA (d a : Word) (n : Nat) (s : State) :
    bumpHl d (opLoadA a n s) = writePair .hl (hlAddr s + d) (opLoadA a n s) := by
  rw [bumpHl, hlAddr_opLoadA]

/-- `LD (HL+),A` and `LD (HL-),A`: HL is stepped from its value before the store (R129, R130). -/
theorem bumpHl_opStoreA (d a : Word) (n : Nat) (s : State) :
    bumpHl d (opStoreA a n s) = writePair .hl (hlAddr s + d) (opStoreA a n s) := by
  rw [bumpHl, hlAddr_opStoreA]

/-- Settles O25: each form is `opLoadA` or `opStoreA`, and the HL+ and HL- forms step HL after it. -/
theorem accumulatorLoads : Obligations.AccumulatorLoads := by
  unfold Obligations.AccumulatorLoads
  intro s a x up down
  have hdown : hlAddr s + -1 = down := (BitVec.sub_eq_add_neg (hlAddr s) 1).symm
  have hloadUp := bumpHl_opLoadA 1 (hlAddr s) 8 s
  have hstoreUp := bumpHl_opStoreA 1 (hlAddr s) 8 s
  have hloadDown := bumpHl_opLoadA (-1) (hlAddr s) 8 s
  have hstoreDown := bumpHl_opStoreA (-1) (hlAddr s) 8 s
  rw [hdown] at hloadDown hstoreDown
  exact ⟨⟨rfl, rfl⟩, ⟨rfl, rfl⟩, ⟨rfl, rfl⟩, ⟨rfl, rfl⟩,
    ⟨rfl, congrArg Host.Outcome.next hloadUp⟩, ⟨rfl, congrArg Host.Outcome.next hloadDown⟩,
    ⟨rfl, congrArg Host.Outcome.next hstoreUp⟩, ⟨rfl, congrArg Host.Outcome.next hstoreDown⟩,
    ⟨rfl, rfl⟩, ⟨rfl, rfl⟩, ⟨rfl, rfl⟩, ⟨rfl, rfl⟩, ⟨rfl, rfl⟩, ⟨rfl, rfl⟩⟩

/-- Settles O26: the pair by `opLdPair`; SP's low byte is stored first, at a16. -/
theorem sixteenBitLoads : Obligations.SixteenBitLoads := by
  unfold Obligations.SixteenBitLoads
  intro s p v
  exact ⟨⟨encode_ldPairImm p v, exec_ldPairImm p v s⟩, ⟨rfl, rfl⟩, ⟨rfl, rfl⟩⟩

/-! ## PUSH and POP (R142, R143) -/

/-- F after POP AF: the flags of the popped byte over a clear low nibble (R24, R143). -/
theorem opPop_af_f (s : State) :
    (opPop .af s).cpu.f = flagByte ((pop16 s).1.getLsbD 7) ((pop16 s).1.getLsbD 6) ((pop16 s).1.getLsbD 5)
      ((pop16 s).1.getLsbD 4) 0 :=
  poppedFlags_eq (pop16 s).1

/-- Settles O27: the pairs by `opPush` and `opPop`; the flags of POP AF are read off the F it writes. -/
theorem pushAndPop : Obligations.PushAndPop := by
  unfold Obligations.PushAndPop
  intro s p
  refine ⟨⟨encode_push p, exec_push p s⟩, ⟨encode_pop p, exec_pop p s⟩, ?popAf⟩
  case popAf =>
    intro t h
    obtain rfl : opPop .af s = t := Host.Outcome.next.inj h
    have hf := opPop_af_f s
    have hlow : flagLow (opPop .af s) = 0 := by rw [flagLow, hf, extractLsb'_flagByte]
    exact ⟨rfl, flagZ_of_f hf, flagN_of_f hf, flagH_of_f hf, flagC_of_f hf, hlow⟩

end Sys2Proof.Machine

namespace Sys2Proof.Machine

/-! ## The 8-bit ALU (R148 to R157) -/

theorem encode_alu (op : AluOp) (src : Src8) : encode (Forms.alu op src) = Forms.aluBytes op src := by
  cases src with
  | reg r => cases op <;> cases r <;> rfl
  | atHl => cases op <;> rfl
  | imm v => cases op <;> rfl

theorem exec_alu (op : AluOp) (src : Src8) (s : State) : exec (Forms.alu op src) s = .next (opAlu op src s) := by
  cases src with
  | reg r => cases op <;> cases r <;> rfl
  | atHl => cases op <;> rfl
  | imm v => cases op <;> rfl

theorem aluCycles_eq (src : Src8) : aluCycles src = Forms.costBySrc 4 8 src := by
  cases src <;> rfl

theorem flagC_congr {s t : State} (h : t.cpu.f = s.cpu.f) : flagC t = flagC s := by rw [flagC, h, flagC]

theorem flagLow_congr {s t : State} (h : t.cpu.f = s.cpu.f) : flagLow t = flagLow s := by rw [flagLow, h, flagLow]

/-- The state after an ALU operation: A and F from its result, over the state the operand's read leaves. -/
theorem opAlu_eq (op : AluOp) (src : Src8) (s : State) :
    let o := aluOut op s.cpu.a (readSrc8 src s).1 (flagC s)
    opAlu op src s = { (readSrc8 src s).2 with
      cpu.a := if op.writesA then o.r else (readSrc8 src s).2.cpu.a
      cpu.f := flagByte o.z o.n o.h o.c (flagLow s)
      cpu.cycles := Forms.costBySrc 4 8 src } := by
  have hcpu := readSrc8_cpu src s
  have hf := congrArg Cpu.f hcpu
  dsimp only
  rw [← flagC_congr hf, ← flagLow_congr hf, ← aluCycles_eq, ← hcpu, opAlu]
  dsimp only
  rw [writeFlags_eq]
  cases op <;> rfl

theorem addOut_eq (a v : Byte) (cin : Bool) :
    let r := a + v + BitVec.ofNat 8 cin.toNat
    addOut a v cin = ⟨r, r == 0, false, decide (a.toNat % 16 + v.toNat % 16 + cin.toNat > 0xF),
      decide (a.toNat + v.toNat + cin.toNat > 0xFF)⟩ := by
  have hr : BitVec.ofNat 8 (a.toNat + v.toNat + cin.toNat) = a + v + BitVec.ofNat 8 cin.toNat := by
    simp [BitVec.ofNat_add]
  rw [addOut, hr]
  rfl

theorem addOut_false (a v : Byte) :
    addOut a v false = ⟨a + v, a + v == 0, false, decide (a.toNat % 16 + v.toNat % 16 > 0xF),
      decide (a.toNat + v.toNat > 0xFF)⟩ := by
  have h := addOut_eq a v false
  rwa [Bool.toNat_false, BitVec.ofNat_eq_ofNat, BitVec.add_zero] at h

theorem subOut_false (a v : Byte) :
    subOut a v false = ⟨a - v, a - v == 0, true, decide (a.toNat % 16 < v.toNat % 16),
      decide (a.toNat < v.toNat)⟩ := by
  have h : a - v - BitVec.ofNat 8 false.toNat = a - v := BitVec.sub_zero (a - v)
  rw [subOut, h]
  rfl

/-- Settles O28: every form is `opAlu`, whose result and flags `aluOut` gives; with no carry in, ADD, SUB and CP are the
plain sum and difference. -/
theorem aluOperations : Obligations.AluOperations := by
  unfold Obligations.AluOperations
  intro s src
  dsimp only
  refine ⟨fun op => encode_alu op src, ?add, ?adc, ?sub, ?sbc, ?and, ?xor, ?or, ?cp⟩
  all_goals rw [exec_alu, opAlu_eq]
  case add => rw [aluOut, addOut_false]; rfl
  case adc => rw [aluOut, addOut_eq]; rfl
  case sub => rw [aluOut, subOut_false]; rfl
  case cp => rw [aluOut, subOut_false]; rfl
  all_goals rfl

/-! ## INC and DEC of a byte (R158, R159) -/

theorem encode_inc (x : Place8) : encode (Forms.inc x) = [Forms.fieldsXYZ 0 (Forms.placeCode x) 4] := by
  cases x with
  | reg r => cases r <;> rfl
  | atHl => rfl

theorem exec_inc (x : Place8) (s : State) : exec (Forms.inc x) s = .next (opInc x s) := by
  cases x with
  | reg r => cases r <;> rfl
  | atHl => rfl

theorem encode_dec (x : Place8) : encode (Forms.dec x) = [Forms.fieldsXYZ 0 (Forms.placeCode x) 5] := by
  cases x with
  | reg r => cases r <;> rfl
  | atHl => rfl

theorem exec_dec (x : Place8) (s : State) : exec (Forms.dec x) s = .next (opDec x s) := by
  cases x with
  | reg r => cases r <;> rfl
  | atHl => rfl

/-- How INC and DEC both end: the operand is written back, Z, N and H are written, C and the low nibble of F kept. -/
theorem setCycles_writeFlags_writePlace8 (x : Place8) (r : Byte) (z n h : Bool) (s : State) :
    setCycles (incDecCycles x) (writeFlags (some z) (some n) (some h) none (writePlace8 x r (readPlace8 x s).2)) =
      { writePlace8 x r (readPlace8 x s).2 with
        cpu.f := flagByte z n h (flagC s) (flagLow s), cpu.cycles := Forms.costByPlace 4 12 x } := by
  have hf := writePlace8_readPlace8_f x r s
  have hcost : incDecCycles x = Forms.costByPlace 4 12 x := by cases x <;> rfl
  rw [writeFlags_eq, hcost, ← flagC_congr hf, ← flagLow_congr hf]
  rfl

/-- Settles O29: both are an operand read, stepped and written back, with C kept. -/
theorem incrementAndDecrement : Obligations.IncrementAndDecrement := by
  unfold Obligations.IncrementAndDecrement
  intro s x
  have hinc : opInc x s = _ := setCycles_writeFlags_writePlace8 ..
  have hdec : opDec x s = _ := setCycles_writeFlags_writePlace8 ..
  exact ⟨⟨encode_inc x, (exec_inc x s).trans (congrArg Host.Outcome.next hinc)⟩,
    ⟨encode_dec x, (exec_dec x s).trans (congrArg Host.Outcome.next hdec)⟩⟩

/-! ## The singletons of the accumulator (R161 to R163, R180 to R183) -/

/-- The byte shifted left, with `b` shifted in at bit 0. -/
theorem shiftInLow_eq (v : Byte) (b : Bool) :
    v.extractLsb' 0 7 ++ BitVec.ofBool b = (v <<< 1) ||| (BitVec.ofBool b).setWidth 8 := by
  apply BitVec.eq_of_getLsbD_eq
  intro i hi
  rw [BitVec.getLsbD_append]
  interval_cases i <;> simp

/-- The byte shifted right, with `b` shifted in at bit 7. -/
theorem shiftInHigh_eq (v : Byte) (b : Bool) :
    BitVec.ofBool b ++ v.extractLsb' 1 7 = (v >>> 1) ||| ((BitVec.ofBool b).setWidth 8 <<< 7) := by
  apply BitVec.eq_of_getLsbD_eq
  intro i hi
  rw [BitVec.getLsbD_append]
  interval_cases i <;> simp

/-- Bit 7 alone, where RLC brings it. -/
theorem ushiftRight_seven (v : Byte) : v >>> 7 = (BitVec.ofBool (v.getLsbD 7)).setWidth 8 := by
  apply BitVec.eq_of_getLsbD_eq
  intro i hi
  interval_cases i <;> simp

/-- Bit 0 alone, where RRC brings it. -/
theorem shiftLeft_seven (v : Byte) : v <<< 7 = (BitVec.ofBool (v.getLsbD 0)).setWidth 8 <<< 7 := by
  apply BitVec.eq_of_getLsbD_eq
  intro i hi
  interval_cases i <;> simp

theorem rotate_rlc (v : Byte) (c : Bool) : rotate .rlc v c = (v.rotateLeft 1, v.getLsbD 7) := by
  have hr : v.rotateLeft 1 = (v <<< 1) ||| (v >>> 7) := BitVec.rotateLeft_def
  rw [rotate, shiftInLow_eq, ← ushiftRight_seven, hr]

theorem rotate_rrc (v : Byte) (c : Bool) : rotate .rrc v c = (v.rotateRight 1, v.getLsbD 0) := by
  have hr : v.rotateRight 1 = (v >>> 1) ||| (v <<< 7) := BitVec.rotateRight_def
  rw [rotate, shiftInHigh_eq, ← shiftLeft_seven, hr]

theorem rotate_rl (v : Byte) (c : Bool) :
    rotate .rl v c = ((v <<< 1) ||| (BitVec.ofBool c).setWidth 8, v.getLsbD 7) := by
  rw [rotate, shiftInLow_eq]

theorem rotate_rr (v : Byte) (c : Bool) :
    rotate .rr v c = ((v >>> 1) ||| ((BitVec.ofBool c).setWidth 8 <<< 7), v.getLsbD 0) := by
  rw [rotate, shiftInHigh_eq]

theorem opRotateA_eq {op : RotOp} {s : State} {r : Byte} {co : Bool}
    (h : rotate op s.cpu.a (flagC s) = (r, co)) :
    opRotateA op s = { s with
      cpu.a := r, cpu.f := flagByte false false false co (flagLow s), cpu.cycles := 4 } := by
  rw [opRotateA, h]
  dsimp only
  rw [writeFlags_eq]
  rfl

theorem opCpl_eq (s : State) : opCpl s = { s with
    cpu.a := ~~~s.cpu.a, cpu.f := flagByte (flagZ s) true true (flagC s) (flagLow s), cpu.cycles := 4 } := by
  have hnot : s.cpu.a ^^^ 0xFF = ~~~s.cpu.a := BitVec.xor_allOnes
  rw [opCpl, writeFlags_eq, hnot]
  rfl

theorem opScf_eq (s : State) : opScf s = { s with
    cpu.f := flagByte (flagZ s) false false true (flagLow s), cpu.cycles := 4 } := by
  rw [opScf, writeFlags_eq]
  rfl

theorem opCcf_eq (s : State) : opCcf s = { s with
    cpu.f := flagByte (flagZ s) false false (!flagC s) (flagLow s), cpu.cycles := 4 } := by
  rw [opCcf, writeFlags_eq]
  rfl

/-- Settles O32: each operation's state, with the rotates' results written as shifts of A. -/
theorem accumulatorSingletons : Obligations.AccumulatorSingletons := by
  unfold Obligations.AccumulatorSingletons
  intro s
  have hnext : ∀ {t u : State}, t = u → Host.Outcome.next t = (.next u : Result) := congrArg Host.Outcome.next
  exact ⟨⟨rfl, hnext (opCpl_eq s)⟩, ⟨rfl, hnext (opScf_eq s)⟩, ⟨rfl, hnext (opCcf_eq s)⟩,
    ⟨rfl, hnext (opRotateA_eq (rotate_rlc ..))⟩, ⟨rfl, hnext (opRotateA_eq (rotate_rrc ..))⟩,
    ⟨rfl, hnext (opRotateA_eq (rotate_rl ..))⟩, ⟨rfl, hnext (opRotateA_eq (rotate_rr ..))⟩⟩

/-! ## DAA (R160) -/

/-- The carry after DAA: kept, and after an addition also set by A > 0x99. -/
def daaHigh (a : Byte) (n c : Bool) : Bool := c || (!n && decide (a.toNat > 0x99))

/-- The low digit is adjusted: on half-carry, and after an addition also when it is above 9. -/
def daaLow (a : Byte) (n h : Bool) : Bool := h || (!n && decide (a.toNat % 16 > 9))

@[simp] theorem daaHigh_true (a : Byte) (c : Bool) : daaHigh a true c = c := Bool.or_false c

@[simp] theorem daaLow_true (a : Byte) (h : Bool) : daaLow a true h = h := Bool.or_false h

theorem daaHigh_false (a : Byte) (p : Prop) [Decidable p] :
    daaHigh a false (decide p) = decide (p ∨ a.toNat > 0x99) := (Bool.decide_or p _).symm

theorem daaLow_false (a : Byte) (p : Prop) [Decidable p] :
    daaLow a false (decide p) = decide (p ∨ a.toNat % 16 > 9) := (Bool.decide_or p _).symm

/-- The byte that DAA adds or subtracts, by the digits it adjusts. -/
def daaAdjust (high low : Bool) : Byte := (if high then 0x60 else 0) + (if low then 0x06 else 0)

/-- Adjusting the high digit leaves the low one, so that DAA can make both tests on A. -/
theorem lowNibble_add_0x60 (a : Byte) : lowNibble (a + 0x60#8) = lowNibble a := by
  simp only [lowNibble]
  bv_omega

/-- Adding the adjustment is adding its two parts in DAA's order. -/
theorem add_daaAdjust (a : Byte) (high low : Bool) :
    a + daaAdjust high low =
      if low then (if high then a + 0x60 else a) + 0x06 else (if high then a + 0x60 else a) := by
  cases high <;> cases low <;> simp [daaAdjust, BitVec.add_assoc]

/-- Subtracting the adjustment is subtracting its two parts in DAA's order. -/
theorem sub_daaAdjust (a : Byte) (high low : Bool) :
    a - daaAdjust high low =
      if low then (if high then a - 0x60 else a) - 0x06 else (if high then a - 0x60 else a) := by
  cases high <;> cases low <;> simp [daaAdjust, BitVec.sub_sub]

/-- DAA is one addition or subtraction of an adjustment decided on A (R160). -/
theorem daaOut_eq (a : Byte) (n h c : Bool) :
    let adjust := daaAdjust (daaHigh a n c) (daaLow a n h)
    daaOut a n h c = (if n then a - adjust else a + adjust, daaHigh a n c) := by
  dsimp only
  rw [add_daaAdjust, sub_daaAdjust]
  cases n with
  | true => simp [daaOut]
  | false =>
    have hdigit : ∀ high : Bool, lowNibble (if high then a + 0x60#8 else a) = a.toNat % 16 := by
      intro high
      cases high
      · rfl
      · exact lowNibble_add_0x60 a
    simp [daaOut, daaHigh, daaLow, ← hdigit (c || decide (a.toNat > 0x99))]

theorem opDaa_eq (s : State) :
    let out := daaOut s.cpu.a (flagN s) (flagH s) (flagC s)
    opDaa s = { s with
      cpu.a := out.1, cpu.f := flagByte (out.1 == 0) (flagN s) false out.2 (flagLow s), cpu.cycles := 4 } := by
  dsimp only
  rw [opDaa]
  dsimp only
  rw [writeFlags_eq]
  rfl

/-- Settles O30: the two adjustments of DAA in a row are one. -/
theorem decimalAdjust : Obligations.DecimalAdjust := by
  unfold Obligations.DecimalAdjust
  intro s
  refine ⟨rfl, congrArg Host.Outcome.next ?_⟩
  rw [opDaa_eq, daaOut_eq]
  rfl

/-! ## Decimal sums and differences (R150, R152, R160) -/

/-- A two-digit number in BCD. -/
def bcd (n : Nat) : Byte := BitVec.ofNat 8 (16 * (n / 10) + n % 10)

theorem toNat_bcd {n : Nat} (h : n < 100) : (bcd n).toNat = 16 * (n / 10) + n % 10 := by
  rw [bcd, BitVec.toNat_ofNat]
  omega

theorem bcd_beq_zero {n : Nat} (h : n < 100) : (bcd n == 0) = decide (n = 0) := by
  have hn := toNat_bcd h
  rw [Bool.eq_iff_iff, beq_iff_eq, decide_eq_true_iff]
  constructor
  · intro h0
    have h0 : (bcd n).toNat = 0 := congrArg BitVec.toNat h0
    omega
  · rintro rfl
    rfl

theorem toNat_daaAdjust (high low : Bool) :
    (daaAdjust high low).toNat = (if high then 96 else 0) + (if low then 6 else 0) := by
  cases high <;> cases low <;> rfl

/-- The decimal carry, by the two columns. -/
theorem decimalCarry_iff (x y : Nat) :
    x + y ≥ 100 ↔ x / 10 + y / 10 ≥ 10 ∨ x / 10 + y / 10 = 9 ∧ x % 10 + y % 10 ≥ 10 := by
  omega

/-- The two columns of a decimal sum, added as hexadecimal digits. -/
theorem toNat_bcd_add_toNat_bcd {x y : Nat} (hx : x < 100) (hy : y < 100) :
    (bcd x).toNat + (bcd y).toNat = 16 * (x / 10 + y / 10) + (x % 10 + y % 10) := by
  rw [toNat_bcd hx, toNat_bcd hy]
  omega

theorem toNat_bcd_add {x y : Nat} (hx : x < 100) (hy : y < 100) :
    (bcd x + bcd y).toNat = (16 * (x / 10 + y / 10) + (x % 10 + y % 10)) % 256 := by
  rw [BitVec.toNat_add, toNat_bcd_add_toNat_bcd hx hy]

/-- After an addition of BCD numbers DAA adjusts the high digit exactly on a decimal carry. -/
theorem daaHigh_addOut_bcd {x y : Nat} (hx : x < 100) (hy : y < 100) :
    daaHigh (bcd x + bcd y) false (decide ((bcd x).toNat + (bcd y).toNat > 0xFF)) = decide (x + y ≥ 100) := by
  have htens : x / 10 + y / 10 ≤ 18 := by omega
  have hones : x % 10 + y % 10 ≤ 18 := by omega
  rw [daaHigh_false, decide_eq_decide, decimalCarry_iff, toNat_bcd_add hx hy, toNat_bcd_add_toNat_bcd hx hy]
  generalize x / 10 + y / 10 = tens at *
  generalize x % 10 + y % 10 = ones at *
  omega

/-- After an addition of BCD numbers DAA adjusts the low digit exactly when the low column carries. -/
theorem daaLow_addOut_bcd {x y : Nat} (hx : x < 100) (hy : y < 100) :
    daaLow (bcd x + bcd y) false (decide ((bcd x).toNat % 16 + (bcd y).toNat % 16 > 0xF)) =
      decide (x % 10 + y % 10 ≥ 10) := by
  rw [daaLow_false, decide_eq_decide, toNat_bcd_add hx hy, toNat_bcd hx, toNat_bcd hy]
  omega

/-- DAA after an addition of BCD numbers. -/
theorem daaOut_addOut_bcd {x y : Nat} (hx : x < 100) (hy : y < 100) :
    let o := addOut (bcd x) (bcd y) false
    daaOut o.r o.n o.h o.c = (bcd ((x + y) % 100), decide (x + y ≥ 100)) := by
  dsimp only
  rw [addOut_false, daaOut_eq, daaHigh_addOut_bcd hx hy, daaLow_addOut_bcd hx hy]
  refine congrArg (·, decide (x + y ≥ 100)) (BitVec.eq_of_toNat_eq ?_)
  rw [if_neg Bool.false_ne_true, BitVec.toNat_add, toNat_bcd_add hx hy, toNat_daaAdjust,
    toNat_bcd (Nat.mod_lt _ (by decide))]
  simp only [decide_eq_true_eq]
  split_ifs <;> omega

/-- Subtraction borrows from the high digit exactly when the decimal difference does. -/
theorem toNat_bcd_lt_iff {x y : Nat} (hx : x < 100) (hy : y < 100) : (bcd x).toNat < (bcd y).toNat ↔ x < y := by
  rw [toNat_bcd hx, toNat_bcd hy]
  omega

/-- DAA after a subtraction of BCD numbers: a borrow took 16 from a digit instead of 10. -/
theorem daaOut_subOut_bcd {x y : Nat} (hx : x < 100) (hy : y < 100) :
    let o := subOut (bcd x) (bcd y) false
    daaOut o.r o.n o.h o.c = (bcd ((x + 100 - y) % 100), decide (x < y)) := by
  dsimp only
  rw [subOut_false, daaOut_eq, daaHigh_true, daaLow_true, decide_eq_decide.mpr (toNat_bcd_lt_iff hx hy)]
  refine congrArg (·, decide (x < y)) (BitVec.eq_of_toNat_eq ?_)
  rw [if_pos rfl, BitVec.toNat_sub, BitVec.toNat_sub, toNat_daaAdjust, toNat_bcd hx, toNat_bcd hy,
    toNat_bcd (Nat.mod_lt _ (by decide))]
  simp only [decide_eq_true_eq]
  split_ifs <;> omega

/-- An ALU operation that writes A, and then DAA, which reads the result and the flags just set. -/
theorem exec_daa_opAlu {op : AluOp} (hop : op.writesA = true) (r : Reg8) (s : State) :
    let o := aluOut op s.cpu.a (readReg8 r s) (flagC s)
    let out := daaOut o.r o.n o.h o.c
    ∃ u, exec .daa (opAlu op (.reg r) s) = .next u ∧
      u.cpu.a = out.1 ∧ flagC u = out.2 ∧ flagZ u = (out.1 == 0) := by
  have hexec : exec .daa (opAlu op (.reg r) s) = .next (opDaa (opAlu op (.reg r) s)) := rfl
  refine ⟨_, hexec, ?_⟩
  have ht := opAlu_eq op (.reg r) s
  have ha : (opAlu op (.reg r) s).cpu.a = (aluOut op s.cpu.a (readReg8 r s) (flagC s)).r := by
    rw [ht, if_pos hop]
    rfl
  have hf := congrArg (fun t => t.cpu.f) ht
  rw [opDaa_eq, ha, flagN_of_f hf, flagH_of_f hf, flagC_of_f hf]
  exact ⟨rfl, flagC_of_f rfl, flagZ_of_f rfl⟩

/-- Settles O31: what DAA makes of the sum and of the difference of BCD numbers, column by column. -/
theorem decimalArithmetic : Obligations.DecimalArithmetic := by
  unfold Obligations.DecimalArithmetic
  intro s x y hx hy enc ha hb
  have ha : s.cpu.a = bcd x := ha
  have hb : readReg8 .b s = bcd y := hb
  have hadd := exec_daa_opAlu (op := .add) rfl .b s
  have hsub := exec_daa_opAlu (op := .sub) rfl .b s
  rw [ha, hb] at hadd hsub
  simp only [aluOut, daaOut_addOut_bcd hx hy, daaOut_subOut_bcd hx hy] at hadd hsub
  obtain ⟨u, hu, hua, huc, huz⟩ := hadd
  obtain ⟨w, hw, hwa, hwc, hwz⟩ := hsub
  rw [bcd_beq_zero (Nat.mod_lt _ (by decide))] at huz hwz
  have hzero : decide ((x + 100 - y) % 100 = 0) = decide (x = y) := decide_eq_decide.mpr (by omega)
  exact ⟨⟨_, u, rfl, hu, hua, huc, huz⟩, ⟨_, w, rfl, hw, hwa, hwc, hwz.trans hzero⟩⟩

end Sys2Proof.Machine

namespace Sys2Proof.Machine

/-! ## 16-bit arithmetic (R170 to R174) -/

theorem encode_incPair (p : Pair) :
    encode (Forms.incPair p) = [Forms.fieldsXPQZ 0 (Forms.pairCode p) 0 3] := by
  cases p <;> rfl

theorem exec_incPair (p : Pair) (s : State) : exec (Forms.incPair p) s = .next (opIncPair p s) := by
  cases p <;> rfl

theorem encode_decPair (p : Pair) :
    encode (Forms.decPair p) = [Forms.fieldsXPQZ 0 (Forms.pairCode p) 1 3] := by
  cases p <;> rfl

theorem exec_decPair (p : Pair) (s : State) : exec (Forms.decPair p) s = .next (opDecPair p s) := by
  cases p <;> rfl

theorem encode_addHl (p : Pair) : encode (Forms.addHl p) = [Forms.fieldsXPQZ 0 (Forms.pairCode p) 1 1] := by
  cases p <;> rfl

theorem exec_addHl (p : Pair) (s : State) : exec (Forms.addHl p) s = .next (opAddHl p s) := by
  cases p <;> rfl

/-- `ADD HL,rr`: the sum goes to HL, Z is kept, Hf and Cf are the carries out of bits 11 and 15 (R172). -/
theorem opAddHl_eq (p : Pair) (s : State) :
    let out := addHlOut (hlAddr s) (readPair p s)
    opAddHl p s = { s with
      cpu.h := hiByte out.1, cpu.l := loByte out.1
      cpu.f := flagByte (flagZ s) false out.2.1 out.2.2 (flagLow s), cpu.cycles := 8 } :=
  congrArg (setCycles 8) (writeFlags_eq ..)

/-- `ADD SP,e8`: the sum goes to SP, Hf and Cf are the carries of the low bytes (R173). -/
theorem opAddSp_eq (e8 : Byte) (s : State) :
    let out := addSpOut s.cpu.sp e8
    opAddSp e8 s = { s with
      cpu.sp := out.1, cpu.f := flagByte false false out.2.1 out.2.2 (flagLow s), cpu.cycles := 16 } :=
  congrArg (setCycles 16) (writeFlags_eq ..)

/-- `LD HL,SP+e8`: the sum and the flags of `ADD SP,e8`, with the sum put into HL (R174). -/
theorem opLdHlSp_eq (e8 : Byte) (s : State) :
    let out := addSpOut s.cpu.sp e8
    opLdHlSp e8 s = { s with
      cpu.h := hiByte out.1, cpu.l := loByte out.1
      cpu.f := flagByte false false out.2.1 out.2.2 (flagLow s), cpu.cycles := 12 } :=
  congrArg (setCycles 12) (writeFlags_eq ..)

/-- Settles O33: the pair is stepped by `opIncPair` and `opDecPair`, which write no flag; the sums of the other three and
their carries are those of `addHlOut` and `addSpOut`. -/
theorem sixteenBitArithmetic : Obligations.SixteenBitArithmetic := by
  unfold Obligations.SixteenBitArithmetic
  intro s p e8
  have hnext : ∀ {t u : State}, t = u → Host.Outcome.next t = (.next u : Result) := congrArg Host.Outcome.next
  exact ⟨⟨encode_incPair p, exec_incPair p s⟩, ⟨encode_decPair p, exec_decPair p s⟩,
    ⟨encode_addHl p, (exec_addHl p s).trans (hnext (opAddHl_eq p s))⟩,
    ⟨rfl, hnext (opAddSp_eq e8 s)⟩, ⟨rfl, hnext (opLdHlSp_eq e8 s)⟩⟩

end Sys2Proof.Machine

namespace Sys2Proof.Machine

/-! ## Rotates and shifts of the CB page (R179, R184 to R191) -/

theorem encode_rot (op : RotOp) (x : Place8) : encode (Forms.rot op x) = Forms.cbBytes 0 (Forms.rotCode op) x := by
  cases x with
  | reg r => cases op <;> cases r <;> rfl
  | atHl => cases op <;> rfl

theorem exec_rot (op : RotOp) (x : Place8) (s : State) : exec (Forms.rot op x) s = .next (opRotate op x s) := by
  cases x with
  | reg r => cases op <;> cases r <;> rfl
  | atHl => cases op <;> rfl

theorem cbCycles_eq (x : Place8) : cbCycles x = Forms.costByPlace 8 16 x := by
  cases x <;> rfl

theorem rotate_sla (v : Byte) (c : Bool) : rotate .sla v c = (v <<< 1, v.getLsbD 7) := by
  have hzero : (v <<< 1) ||| (BitVec.ofBool false).setWidth 8 = v <<< 1 := BitVec.or_zero
  rw [rotate, shiftInLow_eq, hzero]

theorem rotate_srl (v : Byte) (c : Bool) : rotate .srl v c = (v >>> 1, v.getLsbD 0) := by
  have hzero : (v >>> 1) ||| ((BitVec.ofBool false).setWidth 8 <<< 7) = v >>> 1 := BitVec.or_zero
  rw [rotate, shiftInHigh_eq, hzero]

theorem rotate_sra (v : Byte) (c : Bool) : rotate .sra v c = (v.sshiftRight 1, v.getLsbD 0) := by
  have hr : BitVec.ofBool (v.getLsbD 7) ++ v.extractLsb' 1 7 = v.sshiftRight 1 := by
    apply BitVec.eq_of_getLsbD_eq
    intro i hi
    rw [BitVec.getLsbD_append, BitVec.getLsbD_sshiftRight]
    interval_cases i <;> simp [BitVec.msb_eq_getLsbD_last]
  rw [rotate, hr]

theorem rotate_swap (v : Byte) (c : Bool) : rotate .swap v c = (v.rotateLeft 4, false) := by
  have hr : v.extractLsb' 0 4 ++ v.extractLsb' 4 4 = v.rotateLeft 4 := by
    apply BitVec.eq_of_getLsbD_eq
    intro i hi
    rw [BitVec.getLsbD_append, BitVec.getLsbD_rotateLeft]
    interval_cases i <;> simp
  rw [rotate, hr]

/-- The state after a rotate or shift, by its result and the bit shifted out: the operand is written back over the state
its read leaves, and the flags are `Z 0 0 C` (R179). -/
theorem opRotate_eq {op : RotOp} {x : Place8} {s : State} {r : Byte} {co : Bool}
    (h : rotate op (readPlace8 x s).1 (flagC s) = (r, co)) :
    opRotate op x s = { writePlace8 x r (readPlace8 x s).2 with
      cpu.f := flagByte (r == 0) false false co (flagLow s), cpu.cycles := Forms.costByPlace 8 16 x } := by
  have hread := congrArg Cpu.f (readPlace8_cpu x s)
  have hwrite := writePlace8_readPlace8_f x r s
  rw [← flagC_congr hread] at h
  simp only [opRotate, h]
  rw [writeFlags_eq, cbCycles_eq, ← flagLow_congr hwrite]
  rfl

/-- Settles O34: every form is `opRotate`, whose result and carry are those of `rotate`, written as shifts and rotations
of the byte. -/
theorem cbRotatesAndShifts : Obligations.CbRotatesAndShifts := by
  unfold Obligations.CbRotatesAndShifts
  intro s x
  have hrot {op : RotOp} {r : Byte} {co : Bool} (h : rotate op (readPlace8 x s).1 (flagC s) = (r, co)) :=
    (exec_rot op x s).trans (congrArg Host.Outcome.next (opRotate_eq h))
  exact ⟨fun op => encode_rot op x, hrot (rotate_rlc ..), hrot (rotate_rrc ..), hrot (rotate_rl ..),
    hrot (rotate_rr ..), hrot (rotate_sla ..), hrot (rotate_sra ..), hrot (rotate_srl ..), hrot (rotate_swap ..)⟩

/-! ## BIT, RES and SET (R192 to R194) -/

theorem encode_bit (b : Fin 8) (x : Place8) :
    encode (Forms.bit b x) = Forms.cbBytes 1 (BitVec.ofNat 3 b.val) x := by
  cases x with
  | reg r => fin_cases b <;> cases r <;> rfl
  | atHl => fin_cases b <;> rfl

theorem exec_bit (b : Fin 8) (x : Place8) (s : State) : exec (Forms.bit b x) s = .next (opBit b.val x s) := by
  cases x with
  | reg r => fin_cases b <;> cases r <;> rfl
  | atHl => fin_cases b <;> rfl

theorem encode_res (b : Fin 8) (x : Place8) :
    encode (Forms.res b x) = Forms.cbBytes 2 (BitVec.ofNat 3 b.val) x := by
  cases x with
  | reg r => fin_cases b <;> cases r <;> rfl
  | atHl => fin_cases b <;> rfl

theorem exec_res (b : Fin 8) (x : Place8) (s : State) : exec (Forms.res b x) s = .next (opRes b.val x s) := by
  cases x with
  | reg r => fin_cases b <;> cases r <;> rfl
  | atHl => fin_cases b <;> rfl

theorem encode_set (b : Fin 8) (x : Place8) :
    encode (Forms.set b x) = Forms.cbBytes 3 (BitVec.ofNat 3 b.val) x := by
  cases x with
  | reg r => fin_cases b <;> cases r <;> rfl
  | atHl => fin_cases b <;> rfl

theorem exec_set (b : Fin 8) (x : Place8) (s : State) : exec (Forms.set b x) s = .next (opSet b.val x s) := by
  cases x with
  | reg r => fin_cases b <;> cases r <;> rfl
  | atHl => fin_cases b <;> rfl

theorem bitCycles_eq (x : Place8) : bitCycles x = Forms.costByPlace 8 12 x := by
  cases x <;> rfl

/-- The state after BIT: the flags over the state the operand's read leaves, C kept (R192). -/
theorem opBit_eq (b : Nat) (x : Place8) (s : State) :
    opBit b x s = { (readPlace8 x s).2 with
      cpu.f := flagByte (!(readPlace8 x s).1.getLsbD b) false true (flagC s) (flagLow s)
      cpu.cycles := Forms.costByPlace 8 12 x } := by
  have hread := congrArg Cpu.f (readPlace8_cpu x s)
  rw [opBit, ← bitCycles_eq, ← flagC_congr hread, ← flagLow_congr hread]
  exact congrArg (setCycles (bitCycles x)) (writeFlags_eq ..)

/-- The state after RES: the operand is written back with the bit clear (R193). -/
theorem opRes_eq (b : Nat) (x : Place8) (s : State) :
    opRes b x s = { writePlace8 x ((readPlace8 x s).1 &&& ~~~(1#8 <<< b)) (readPlace8 x s).2 with
      cpu.cycles := Forms.costByPlace 8 16 x } := by
  rw [← cbCycles_eq]
  rfl

/-- The state after SET: the operand is written back with the bit set (R194). -/
theorem opSet_eq (b : Nat) (x : Place8) (s : State) :
    opSet b x s = { writePlace8 x ((readPlace8 x s).1 ||| (1#8 <<< b)) (readPlace8 x s).2 with
      cpu.cycles := Forms.costByPlace 8 16 x } := by
  rw [← cbCycles_eq]
  rfl

/-- Settles O35: the forms are `opBit`, `opRes` and `opSet`; of these only BIT writes flags, and it writes no operand. -/
theorem cbBitOperations : Obligations.CbBitOperations := by
  unfold Obligations.CbBitOperations
  intro s b x
  have hnext : ∀ {t u : State}, t = u → Host.Outcome.next t = (.next u : Result) := congrArg Host.Outcome.next
  exact ⟨⟨encode_bit b x, (exec_bit b x s).trans (hnext (opBit_eq b.val x s))⟩,
    ⟨encode_res b x, (exec_res b x s).trans (hnext (opRes_eq b.val x s))⟩,
    ⟨encode_set b x, (exec_set b x s).trans (hnext (opSet_eq b.val x s))⟩⟩

end Sys2Proof.Machine

namespace Sys2Proof.Machine

/-! ## RETI after a dispatch (R210, R233, R235) -/

/-- A pop in the state after a dispatch that pushed to storage finds the PC the dispatch saved, and leaves SP where it
was before the dispatch. -/
theorem pop16_takeInterrupt {s : State} {j k : Nat} (hinv : BusInv s) (hj : route (s.cpu.sp - 1) = .storage j)
    (hk : route (s.cpu.sp - 2) = .storage k) :
    pop16 (takeInterrupt s) = (s.cpu.pc, setSp s.cpu.sp (takeInterrupt s)) := by
  have hready : BusInv (dispatching s) := hinv
  obtain ⟨hhi, hlo⟩ := byteAt_push16_storage (s := dispatching s) s.cpu.pc hready hj hk
  rw [← byteAt_takeInterrupt] at hhi hlo
  have hsp : (takeInterrupt s).cpu.sp = s.cpu.sp - 2 := by rw [takeInterrupt_cpu]
  have hnext : (takeInterrupt s).cpu.sp + 1 = s.cpu.sp - 1 := by
    rw [hsp]
    bv_omega
  rw [pop16_of_byteAt (hsp ▸ hlo) (hnext ▸ hhi), word16_hi_lo, hsp, BitVec.sub_add_cancel]

/-- The CPU after RETI, over what its pop leaves (R210). -/
theorem opReti_cpu (s : State) :
    (opReti s).cpu = { (pop16 s).2.cpu with pc := (pop16 s).1, ime := true, eiDelay := 0, cycles := 16 } := rfl

/-- Settles O48: RETI pops the saved PC, and the rest of the CPU is what the dispatch left of it. -/
theorem retiUndoesDispatch : Obligations.RetiUndoesDispatch := by
  unfold Obligations.RetiUndoesDispatch
  intro s j k hinv _ hj hk
  refine ⟨opReti (takeInterrupt s), rfl, ?_⟩
  rw [opReti_cpu, pop16_takeInterrupt hinv hj hk]
  simp [setSp, takeInterrupt_cpu]

end Sys2Proof.Machine

namespace Sys2Proof.Machine

/-! ## The jumps (R200 to R205) -/

theorem encode_jpCc (cc : Cond) (a : Word) :
    encode (Forms.jpCc cc a) =
      [Forms.fieldsXPQZ 3 ((0 : BitVec 1) ++ (Forms.condCode cc).extractLsb' 1 1)
        ((Forms.condCode cc).extractLsb' 0 1) 2, loByte a, hiByte a] := by
  cases cc <;> rfl

theorem exec_jpCc (cc : Cond) (a : Word) (s : State) : exec (Forms.jpCc cc a) s = .next (opJpCc cc a s) := by
  cases cc <;> rfl

theorem encode_jrCc (cc : Cond) (e : Byte) :
    encode (Forms.jrCc cc e) = [(1 : BitVec 3) ++ Forms.condCode cc ++ (0 : BitVec 3), e] := by
  cases cc <;> rfl

theorem exec_jrCc (cc : Cond) (e : Byte) (s : State) : exec (Forms.jrCc cc e) s = .next (opJrCc cc e s) := by
  cases cc <;> rfl

/-- The state after JP cc, taken or not: only PC and the cost depend on the condition (R202). -/
theorem opJpCc_eq (cc : Cond) (a : Word) (s : State) :
    opJpCc cc a s = { s with
      cpu.pc := if condHolds cc s then a else s.cpu.pc
      cpu.cycles := if condHolds cc s then jpTakenCycles s.env.cfg else 12 } := by
  unfold opJpCc
  cases condHolds cc s <;> rfl

/-- The state after JR cc, taken or not (R205). -/
theorem opJrCc_eq (cc : Cond) (e : Byte) (s : State) :
    opJrCc cc e s = { s with
      cpu.pc := if condHolds cc s then s.cpu.pc + sext16 e else s.cpu.pc
      cpu.cycles := if condHolds cc s then 12 else 8 } := by
  unfold opJrCc
  cases condHolds cc s <;> rfl

/-- Settles O37: the conditional forms by the states after `opJpCc` and `opJrCc`; the others are `setPc` and a cost. -/
theorem jumps : Obligations.Jumps := by
  unfold Obligations.Jumps
  intro s cc a e
  exact ⟨⟨rfl, rfl, rfl, rfl⟩, ⟨rfl, rfl⟩,
    ⟨encode_jpCc cc a, (exec_jpCc cc a s).trans (congrArg Host.Outcome.next (opJpCc_eq cc a s))⟩,
    ⟨rfl, rfl⟩, ⟨rfl, rfl⟩,
    ⟨encode_jrCc cc e, (exec_jrCc cc e s).trans (congrArg Host.Outcome.next (opJrCc_eq cc e s))⟩⟩

/-! ## CALL, CALL cc and RST (R206, R207, R211) -/

theorem encode_callCc (cc : Cond) (a : Word) :
    encode (Forms.callCc cc a) =
      [(6 : BitVec 3) ++ Forms.condCode cc ++ (4 : BitVec 3), loByte a, hiByte a] := by
  cases cc <;> rfl

theorem exec_callCc (cc : Cond) (a : Word) (s : State) : exec (Forms.callCc cc a) s = .next (opCallCc cc a s) := by
  cases cc <;> rfl

theorem encode_rst (y : Fin 8) : encode (Forms.rst y) = [Forms.fieldsXYZ 3 (BitVec.ofNat 3 y.val) 7] := by
  fin_cases y <;> rfl

theorem exec_rst (y : Fin 8) (s : State) : exec (Forms.rst y) s = .next (opRst y.val s) := by
  fin_cases y <;> rfl

theorem opCallCc_of_taken {cc : Cond} {s : State} (h : condHolds cc s = true) (a : Word) :
    opCallCc cc a s = opCall a s := by
  simp [opCallCc, opCall, h]

theorem opCallCc_of_notTaken {cc : Cond} {s : State} (h : condHolds cc s = false) (a : Word) :
    opCallCc cc a s = setCycles 12 s := by
  simp [opCallCc, h]

/-- Settles O38: CALL, a taken CALL cc and RST are `callTo`, the push of PC and the jump; not taken, only the cost is
set. -/
theorem calls : Obligations.Calls := by
  unfold Obligations.Calls
  intro s cc a y
  exact ⟨⟨rfl, rfl⟩,
    ⟨encode_callCc cc a,
      fun h => (exec_callCc cc a s).trans (congrArg Host.Outcome.next (opCallCc_of_taken h a)),
      fun h => (exec_callCc cc a s).trans (congrArg Host.Outcome.next (opCallCc_of_notTaken h a))⟩,
    ⟨encode_rst y, exec_rst y s⟩⟩

/-! ## RET, RET cc and RETI (R208 to R210) -/

theorem encode_retCc (cc : Cond) :
    encode (Forms.retCc cc) = [(6 : BitVec 3) ++ Forms.condCode cc ++ (0 : BitVec 3)] := by
  cases cc <;> rfl

theorem exec_retCc (cc : Cond) (s : State) : exec (Forms.retCc cc) s = .next (opRetCc cc s) := by
  cases cc <;> rfl

theorem opRetCc_of_taken {cc : Cond} {s : State} (h : condHolds cc s = true) :
    opRetCc cc s = setCycles 20 (returnTo s) := by
  simp [opRetCc, h]

theorem opRetCc_of_notTaken {cc : Cond} {s : State} (h : condHolds cc s = false) :
    opRetCc cc s = setCycles 8 s := by
  simp [opRetCc, h]

/-- Settles O39: RET and a taken RET cc are `returnTo`, the pop into PC; RETI is `returnFromInterrupt`, which also sets
IME and clears the pending EI. -/
theorem returns : Obligations.Returns := by
  unfold Obligations.Returns
  intro s cc
  exact ⟨⟨rfl, rfl⟩,
    ⟨encode_retCc cc,
      fun h => (exec_retCc cc s).trans (congrArg Host.Outcome.next (opRetCc_of_taken h)),
      fun h => (exec_retCc cc s).trans (congrArg Host.Outcome.next (opRetCc_of_notTaken h))⟩,
    ⟨rfl, rfl⟩⟩

end Sys2Proof.Machine

namespace Sys2Proof.Machine

/-! ## NOP, DI and EI (R220, R223, R224) -/

/-- The state after EI: only the delay can change, besides the cost (R224). -/
theorem opEi_eq (s : State) :
    opEi s = { s with cpu.eiDelay := if s.cpu.eiDelay = 0 then 2 else s.cpu.eiDelay, cpu.cycles := 4 } := by
  unfold opEi
  split <;> rfl

/-- Settles O40: NOP and DI are their records as they stand; EI by the state after `opEi`. -/
theorem nopDiEi : Obligations.NopDiEi := by
  unfold Obligations.NopDiEi
  intro s
  exact ⟨⟨rfl, rfl⟩, ⟨rfl, rfl⟩, rfl, congrArg Host.Outcome.next (opEi_eq s)⟩

/-! ## The CB page and its escape (R96, R226) -/

/-- The CB instruction of a byte, as the form of its fields x, y and z: a rotate or shift, BIT, RES or SET. -/
def cbForm (cb : Byte) : Instr :=
  let y : Fin 8 := ⟨cb.toNat / 8 % 8, Nat.mod_lt _ (by decide)⟩
  let x := placeOfCode (cb.toNat % 8)
  match cb.toNat / 64 with
  | 0 => Forms.rot (rotOfCode y) x
  | 1 => Forms.bit y x
  | 2 => Forms.res y x
  | _ => Forms.set y x

theorem decodeCb_eq_cbForm (cb : Byte) : decodeCb cb = cbForm cb := by
  revert cb
  decide

theorem exec_cbForm (cb : Byte) (s : State) : exec (cbForm cb) s = .next (opCbPage cb s) := by
  unfold cbForm opCbPage
  dsimp only
  generalize cb.toNat / 64 = x
  match x with
  | 0 => exact exec_rot ..
  | 1 => exact exec_bit ..
  | 2 => exact exec_res ..
  | _ + 3 => exact exec_set ..

/-- Settles O36: a CB byte decodes to the form of its fields, and the escape selects its operation by the same fields. -/
theorem prefixEscapes : Obligations.PrefixEscapes := by
  unfold Obligations.PrefixEscapes
  intro s cb b2
  have hrow : exec (.prefix_cb cb) s = .next (opCbPage cb s) := rfl
  have hdecode : decodeBytes 0xCB cb b2 = decodeCb cb := rfl
  refine ⟨encode_decodeBytes 0xCB cb b2, ?_, opCbPage cb s, hrow⟩
  rw [hrow, hdecode, decodeCb_eq_cbForm, exec_cbForm]

/-! ## The undefined opcodes (R225) -/

/-- An undefined opcode faults with the PC it is given. -/
theorem exec_of_mem_undefined (s : State) :
    ∀ x ∈ Forms.undefined, exec x.2 s = .fault (.invalidOpcode s.cpu.pc x.1) := by
  intro x hx
  fin_cases hx <;> rfl

/-- Of the rows of the table, only the eleven undefined ones end with a fault. -/
theorem mem_undefined_of_exec_fault {i : Instr} {s : State} {r : Fault} (h : exec i s = .fault r) :
    i ∈ Forms.undefined.map Prod.snd := by
  cases i <;> cases h
  all_goals decide

theorem exec_ne_refused (i : Instr) (s : State) (r : Refusal) : exec i s ≠ .refused r := by
  obtain ⟨t, h, -⟩ | ⟨h, -⟩ | ⟨pad, h, -⟩ | ⟨op, h, -⟩ := exec_cases i s <;> rw [h] <;> exact nofun

/-- Every other instruction completes. -/
theorem exec_completes {i : Instr} (h : i ∉ Forms.undefined.map Prod.snd) (s : State) : ∃ t, exec i s = .next t := by
  cases hexec : exec i s with
  | next t => exact ⟨t, rfl⟩
  | fault r => exact absurd (mem_undefined_of_exec_fault hexec) h
  | refused r => exact absurd hexec (exec_ne_refused i s r)

/-! ### The fetch of an undefined opcode (R97, R225) -/

theorem fetchOpcode_fst (s : State) : (fetchOpcode s).1 = (memRead s.cpu.pc s).1 := by
  unfold fetchOpcode
  dsimp only
  split <;> rfl

/-- What is fetched is decoded with the byte at PC as its opcode. -/
theorem exists_fetchInstr_fst (s : State) :
    ∃ b1 b2, (fetchInstr s).1 = decodeBytes (memRead s.cpu.pc s).1 b1 b2 := by
  rw [← fetchOpcode_fst]
  unfold fetchInstr
  dsimp only
  split
  · exact ⟨_, _, rfl⟩
  · split <;> exact ⟨_, _, rfl⟩

/-- An undefined opcode is all that is read: PC and the latch are back where they were. -/
theorem fetchInstr_of_isIllegal {s : State} (h : isIllegal (memRead s.cpu.pc s).1 = true) :
    fetchInstr s = (decodeBytes (memRead s.cpu.pc s).1 0 0, (memRead s.cpu.pc s).2) := by
  have hback : { (fetchOpcode s).2 with cpu.pc := s.cpu.pc, cpu.haltBugLatch := s.cpu.haltBugLatch } =
      (memRead s.cpu.pc s).2 := by
    have hcpu := memRead_cpu s.cpu.pc s
    unfold fetchOpcode
    dsimp only
    generalize (memRead s.cpu.pc s).2 = t at hcpu ⊢
    rw [← hcpu]
    split <;> rfl
  rw [← fetchOpcode_fst] at h
  rw [fetchInstr, ← hback, ← fetchOpcode_fst]
  exact if_pos h

/-- A CPU that fetches an undefined opcode runs into the fault with the PC of that opcode. -/
theorem exec_fetchInstr_of_undefined {s : State} (h : (memRead s.cpu.pc s).1 ∈ Forms.undefined.map Prod.fst) :
    exec (fetchInstr s).1 (fetchInstr s).2 = .fault (.invalidOpcode s.cpu.pc (memRead s.cpu.pc s).1) := by
  rw [fetchInstr_of_isIllegal ((isIllegal_iff_mem_undefined _).mpr h)]
  obtain ⟨x, hx, hop⟩ := List.mem_map.mp h
  dsimp only
  rw [← hop, decodeBytes_of_mem_undefined 0 0 x hx, exec_of_mem_undefined _ x hx, memRead_cpu]

/-- What is fetched faults only if the byte at PC is an undefined opcode. -/
theorem undefined_of_exec_fetchInstr_fault {s : State} {r : Fault}
    (h : exec (fetchInstr s).1 (fetchInstr s).2 = .fault r) :
    (memRead s.cpu.pc s).1 ∈ Forms.undefined.map Prod.fst := by
  obtain ⟨b1, b2, hfetch⟩ := exists_fetchInstr_fst s
  rw [← decodeBytes_mem_undefined_iff _ b1 b2, ← hfetch]
  exact mem_undefined_of_exec_fault h

/-! ## The system step by the CPU's state (R230, R231) -/

theorem systemStep_of_stopped {s : State} (h : s.cpu.stopped = true) :
    systemStep s = .next (ppuAdvance 4 (setCycles 4 s)) := by
  simp [systemStep, cpuStep, h]

theorem systemStep_of_halted {s : State} (hstopped : s.cpu.stopped = false) (hhalted : s.cpu.halted = true) :
    systemStep s = .next (ppuAdvance (haltedStep s).cpu.cycles (haltedStep s)) := by
  simp [systemStep, cpuStep, hstopped, hhalted]

theorem systemStep_of_running {s : State} (hstopped : s.cpu.stopped = false) (hhalted : s.cpu.halted = false) :
    systemStep s = completeStep (exec (fetchInstr s).1 (fetchInstr s).2) := by
  have hcpu : cpuStep s = runInstr s := by simp [cpuStep, hstopped, hhalted]
  rw [systemStep, hcpu, runInstr]
  dsimp only
  cases exec (fetchInstr s).1 (fetchInstr s).2 <;> rfl

/-- A step that does not complete is one of a running CPU. -/
theorem systemStep_next_or_running (s : State) :
    (∃ t, systemStep s = .next t) ∨
    (s.cpu.stopped = false ∧ s.cpu.halted = false ∧
      systemStep s = completeStep (exec (fetchInstr s).1 (fetchInstr s).2)) := by
  cases hstopped : s.cpu.stopped with
  | true => exact .inl ⟨_, systemStep_of_stopped hstopped⟩
  | false =>
    cases hhalted : s.cpu.halted with
    | true => exact .inl ⟨_, systemStep_of_halted hstopped hhalted⟩
    | false => exact .inr ⟨rfl, rfl, systemStep_of_running hstopped hhalted⟩

theorem completeStep_eq_fault_iff (r : Result) (f : Fault) : completeStep r = .fault f ↔ r = .fault f := by
  cases r <;> simp [completeStep]

theorem completeStep_eq_refused_iff (r : Result) (q : Refusal) : completeStep r = .refused q ↔ r = .refused q := by
  cases r <;> simp [completeStep]

theorem systemStep_ne_refused (s : State) (r : Refusal) : systemStep s ≠ .refused r := by
  intro h
  obtain ⟨t, ht⟩ | ⟨-, -, hrun⟩ := systemStep_next_or_running s
  · cases ht.symm.trans h
  · exact exec_ne_refused _ _ r ((completeStep_eq_refused_iff _ _).mp (hrun.symm.trans h))

/-- A system step faults only with the CPU running and an undefined opcode at PC, and the fault names both (R225). -/
theorem systemStep_fault {s : State} {r : Fault} (h : systemStep s = .fault r) :
    s.cpu.stopped = false ∧ s.cpu.halted = false ∧ (memRead s.cpu.pc s).1 ∈ Forms.undefined.map Prod.fst ∧
      r = .invalidOpcode s.cpu.pc (memRead s.cpu.pc s).1 := by
  obtain ⟨t, ht⟩ | ⟨hstopped, hhalted, hrun⟩ := systemStep_next_or_running s
  · cases ht.symm.trans h
  · have hexec := (completeStep_eq_fault_iff _ _).mp (hrun.symm.trans h)
    have hop := undefined_of_exec_fetchInstr_fault hexec
    refine ⟨hstopped, hhalted, hop, ?_⟩
    rw [exec_fetchInstr_of_undefined hop] at hexec
    cases hexec
    rfl

/-- Settles O8: only the undefined rows fault and no row refuses, so a step that faults has fetched one of the eleven. -/
theorem onlyUndefinedOpcodesFault : Obligations.OnlyUndefinedOpcodesFault := by
  unfold Obligations.OnlyUndefinedOpcodesFault
  exact ⟨fun _ s h => exec_completes h s, fun s => systemStep_ne_refused (takeMoves s), fun _ _ => systemStep_fault⟩

/-- Settles O7: the fetch of an undefined opcode leaves the state as it was, and the driver reads that settled byte
again. -/
theorem undefinedOpcodesStop : Obligations.UndefinedOpcodesStop := by
  unfold Obligations.UndefinedOpcodesStop
  refine ⟨fun x hx s => ⟨encode_of_mem_undefined x hx, exec_of_mem_undefined s x hx⟩, ?_⟩
  intro x hx s hmoves hstopped hhalted hop
  have htake : takeMoves s = s := by simp [takeMoves, hmoves]
  constructor
  · have hread : (memRead s.cpu.pc s).1 = x.1 := by rw [memRead_of_byteAt hop]
    have hmem : x.1 ∈ Forms.undefined.map Prod.fst := List.mem_map_of_mem hx
    rw [step, htake, systemStep_of_running hstopped hhalted, exec_fetchInstr_of_undefined (hread ▸ hmem), hread]
    rfl
  · have hsettled := afterFault_settled (.invalidOpcode s.cpu.pc x.1) s (v := x.1) (by rwa [htake])
    rwa [htake] at hsettled

/-! ## HALT and STOP, and the suspended CPU (R221, R222, R245, R247) -/

/-- The state after HALT: with the HALT bug only the latch is set (R221). -/
theorem opHalt_eq (s : State) :
    opHalt s = if s.env.cfg.haltBug = true ∧ s.cpu.ime = false ∧ pendingAndEnabled s ≠ 0 then
        { s with cpu.haltBugLatch := true, cpu.cycles := 4 }
      else { s with cpu.halted := true, cpu.cycles := 4 } := by
  unfold opHalt
  simp only [Bool.not_eq_true]
  rfl

theorem haltedStep_of_noRequest {s : State} (h : pendingAndEnabled s = 0) : haltedStep s = setCycles 4 s := if_pos h

/-- A request ends HALT without a dispatch when IME is clear. -/
theorem haltedStep_of_masked {s : State} (h : pendingAndEnabled s ≠ 0) (hime : s.cpu.ime = false) :
    haltedStep s = setCycles 4 { s with cpu.halted := false } := by
  rw [haltedStep, if_neg h]
  simp [hime]

/-- A dispatch ends HALT by itself (R233). -/
theorem takeInterrupt_unhalted (s : State) :
    takeInterrupt { s with cpu.halted := false } = takeInterrupt s := rfl

theorem haltedStep_of_dispatch {s : State} (h : pendingAndEnabled s ≠ 0) (hime : s.cpu.ime = true) :
    haltedStep s = setCycles 20 (takeInterrupt s) := by
  rw [← takeInterrupt_unhalted, haltedStep, if_neg h]
  simp [hime, dispatchCycles]

/-- Settles O17: the two instructions, then the steps of a suspended CPU by what is pending. -/
theorem haltAndStop : Obligations.HaltAndStop := by
  unfold Obligations.HaltAndStop
  intro s pad
  refine ⟨⟨rfl, congrArg Host.Outcome.next (opHalt_eq s)⟩, ⟨rfl, rfl⟩, systemStep_of_stopped, ?halted, rfl⟩
  intro hstopped hhalted
  have hstep := systemStep_of_halted hstopped hhalted
  refine ⟨fun hnone => ?idle, fun hsome hime => ?wake, fun hsome hime => ?dispatch⟩
  case idle => rwa [haltedStep_of_noRequest hnone] at hstep
  case wake => rwa [haltedStep_of_masked hsome hime] at hstep
  case dispatch => rwa [haltedStep_of_dispatch hsome hime] at hstep

end Sys2Proof.Machine

namespace Sys2Proof.Machine

/-! ## What a tick raises (R263 to R265) -/

/-! ### The two bits of the PPU in IF, operation by operation -/

/-- A request sets its own bit and keeps every other (R240). -/
theorem request_getLsbD {k : Nat} (hk : k < 5) (j : Nat) (s : State) :
    (request k s).irq.ifr.getLsbD j = (s.irq.ifr.getLsbD j || decide (k = j)) := by
  simp [BitVec.getLsbD_twoPow, hk]

theorem setMode_getLsbD (m : PpuMode) (j : Nat) (s : State) :
    (setMode m s).irq.ifr.getLsbD j = (s.irq.ifr.getLsbD j || (decide (1 = j) && modeRequests m s)) := by
  rw [setMode_ifr]
  cases modeRequests m s <;> simp [BitVec.getLsbD_twoPow]

theorem lycCheck_getLsbD (j : Nat) (s : State) :
    (lycCheck s).irq.ifr.getLsbD j =
      (s.irq.ifr.getLsbD j || (decide (1 = j) && (s.ppu.ly == s.ppu.lyc && s.ppu.statEn.getLsbD 3))) := by
  unfold lycCheck
  by_cases h : s.ppu.ly = s.ppu.lyc ∧ s.ppu.statEn.getLsbD 3 = true
  · have hmatch : (s.ppu.ly == s.ppu.lyc && s.ppu.statEn.getLsbD 3) = true := by simpa using h
    rw [if_pos h, hmatch, request_getLsbD (by decide), Bool.and_true]
  · have hnone : (s.ppu.ly == s.ppu.lyc && s.ppu.statEn.getLsbD 3) = false := by simpa using h
    rw [if_neg h, hnone, Bool.and_false, Bool.or_false]

/-- A new line raises V-blank at 144, and STAT for mode 1 there and for mode 2 on a visible line (R263, R265). -/
theorem enterLine_getLsbD (j : Nat) (s : State) :
    (enterLine s).irq.ifr.getLsbD j =
      (s.irq.ifr.getLsbD j || (decide (0 = j) && s.ppu.ly == 144) ||
        (decide (1 = j) && ((s.ppu.ly == 144 && s.ppu.statEn.getLsbD 1) ||
          (decide (s.ppu.ly.toNat < 144) && s.ppu.statEn.getLsbD 2)))) := by
  unfold enterLine
  by_cases hfirst : s.ppu.ly = 144
  · rw [if_pos hfirst, request_getLsbD (by decide), setMode_getLsbD]
    simp [hfirst, modeRequests, PpuMode.enableBit, Bool.or_right_comm]
  have hlater : (s.ppu.ly == 144) = false := beq_eq_false_iff_ne.mpr hfirst
  rw [if_neg hfirst, hlater]
  by_cases hvis : s.ppu.ly.toNat < 144
  · rw [if_pos hvis, setMode_getLsbD]
    simp [hvis, modeRequests, PpuMode.enableBit]
  · simp [hvis]

/-! ### A tick -/

/-- A tick that ends neither mode 3 nor a line enters at most mode 3: it raises, renders and resets nothing. -/
theorem ppuTick_quiet {s : State} (h : Forms.Displaying s) (hmid : ¬(s.ppu.dot = 251 ∧ s.ppu.ly.toNat < 144))
    (hend : s.ppu.dot ≠ 455) :
    (ppuTick s).irq = s.irq ∧ (ppuTick s).ppu.framebuffer = s.ppu.framebuffer ∧
      (ppuTick s).ppu.windowLine = s.ppu.windowLine := by
  obtain ⟨hl, hr, -, -⟩ := h
  by_cases hscan : s.ppu.ly.toNat < 144 ∧ s.ppu.dot = 79
  · rw [ppuTick_transfer hl hr hscan.1 hscan.2]
    exact ⟨rfl, rfl, rfl⟩
  · rw [ppuTick_plain hl hr (fun hv => ⟨fun h79 => hscan ⟨hv, h79⟩, fun h251 => hmid ⟨h251, hv⟩⟩) hend]
    exact ⟨rfl, rfl, rfl⟩

/-- All that a tick of a running display raises: mode 0 on a visible line; and on a line change V-blank, LYC, mode 1 and
mode 2, each by the new line (R263 to R265). -/
theorem ppuTick_getLsbD {s : State} (h : Forms.Displaying s) (j : Nat) :
    let line := Forms.lineAfter s.ppu.ly
    (ppuTick s).irq.ifr.getLsbD j =
      (s.irq.ifr.getLsbD j || (decide (0 = j) && (s.ppu.dot == 455 && line == 144)) ||
        (decide (1 = j) &&
          ((s.ppu.dot == 251 && decide (s.ppu.ly.toNat < 144) && s.ppu.statEn.getLsbD 0) ||
            (s.ppu.dot == 455 && ((line == s.ppu.lyc && s.ppu.statEn.getLsbD 3) ||
              (line == 144 && s.ppu.statEn.getLsbD 1) ||
              (decide (line.toNat < 144) && s.ppu.statEn.getLsbD 2)))))) := by
  intro line
  have ⟨hl, hr, _, _⟩ := h
  by_cases hend : s.ppu.dot = 455
  · have hline : (nextLine { s with ppu.dot := 456 }).ppu.ly = line := by rw [nextLine_ppu]; rfl
    have hkept := PpuOnly.nextLine { s with ppu.dot := 456 }
    rw [ppuTick_lineEnd hl hr hend, enterLine_getLsbD, lycCheck_getLsbD, lycCheck_ppu, nextLine_irq, hline,
      hkept.lyc, hkept.statEn]
    by_cases hj : 1 = j
    · subst hj
      simp [hend, Bool.or_assoc]
    · simp [hend, hj]
  by_cases hmid : s.ppu.dot = 251 ∧ s.ppu.ly.toNat < 144
  · obtain ⟨hd, hv⟩ := hmid
    rw [ppuTick_render hl hr hv hd, setMode_getLsbD]
    simp [hd, hv, renderLine, modeRequests, PpuMode.enableBit]
  have hquiet : (s.ppu.dot == 251 && decide (s.ppu.ly.toNat < 144)) = false := by simpa using hmid
  have hinside : (s.ppu.dot == 455) = false := beq_eq_false_iff_ne.mpr hend
  rw [(ppuTick_quiet h hmid hend).1, hquiet, hinside]
  simp

/-- With the display off a tick raises nothing (R267). -/
theorem ppuTick_irq_of_off {s : State} (hl : s.ppu.lcdc.getLsbD 7 = false) : (ppuTick s).irq = s.irq := by
  rw [ppuTick_off hl]
  unfold tickOff
  dsimp only
  split <;> split <;> rfl

/-! ### V-blank (R265) -/

theorem lineAfter_eq_144_iff (ly : Byte) : Forms.lineAfter ly = 144 ↔ ly = 143 := by
  unfold Forms.lineAfter
  split
  case isTrue h => subst h; decide
  case isFalse => constructor <;> intro h <;> bv_omega

/-- A tick makes LY 144 exactly at the last dot of line 143. -/
theorem ppuTick_enters_144_iff {s : State} (h : Forms.Displaying s) :
    s.ppu.ly ≠ 144 ∧ (ppuTick s).ppu.ly = 144 ↔ s.ppu.dot = 455 ∧ s.ppu.ly = 143 := by
  obtain ⟨-, -, hline, -⟩ := ppuTick_position h
  rw [hline]
  by_cases hend : s.ppu.dot = 455
  · rw [if_pos hend, lineAfter_eq_144_iff]
    constructor
    · exact fun ⟨_, hly⟩ => ⟨hend, hly⟩
    · exact fun ⟨_, hly⟩ => ⟨by rw [hly]; decide, hly⟩
  · rw [if_neg hend]
    exact ⟨fun ⟨hne, heq⟩ => absurd heq hne, fun ⟨hd, _⟩ => absurd hd hend⟩

/-- From reset the frame position counts the dots of the first frame. -/
theorem framePos_ppuTicks_reset {n : Nat} (hn : n < 70224) :
    Forms.Displaying (ppuTicks n State.reset) ∧ Forms.framePos (ppuTicks n State.reset) = n := by
  have hreset : Forms.Displaying State.reset := ⟨rfl, rfl, by decide, by decide⟩
  obtain ⟨hdisp, hpos, -, -⟩ := frameTiming n State.reset hreset rfl
  rw [show Forms.framePos State.reset = 0 from rfl, Nat.zero_add, Nat.mod_eq_of_lt hn] at hpos
  exact ⟨hdisp, hpos⟩

/-- Line 144 begins at frame position 65664. -/
theorem ly_eq_144_iff_framePos {s : State} (h : Forms.Displaying s) :
    s.ppu.ly = 144 ↔ 65664 ≤ Forms.framePos s ∧ Forms.framePos s < 66120 := by
  obtain ⟨-, -, -, hdot⟩ := h
  have hly : s.ppu.ly = 144 ↔ s.ppu.ly.toNat = 144 := BitVec.toNat_inj.symm
  rw [hly, Forms.framePos]
  omega

/-- Settles O51: a line change raises V-blank when the new line is 144; from reset that line begins at position
65664 of the first frame. -/
theorem vblankRequest : Obligations.VblankRequest := by
  unfold Obligations.VblankRequest
  refine ⟨fun s h => ⟨?raised, ppuTick_enters_144_iff h⟩, fun s => ppuTick_irq_of_off, ?first, fun n hn => ?before⟩
  case raised =>
    have hline : (Forms.lineAfter s.ppu.ly == 144) = (s.ppu.ly == 143) := by
      rw [Bool.eq_iff_iff, beq_iff_eq, beq_iff_eq]
      exact lineAfter_eq_144_iff s.ppu.ly
    have hbit := ppuTick_getLsbD h 0
    dsimp only at hbit
    rw [hline] at hbit
    simpa using hbit
  case first =>
    obtain ⟨hdisp, hpos⟩ := framePos_ppuTicks_reset (n := 65664) (by decide)
    rw [ly_eq_144_iff_framePos hdisp, hpos]
    decide
  case before =>
    obtain ⟨hdisp, hpos⟩ := framePos_ppuTicks_reset (n := n) (by omega)
    rw [ne_eq, ly_eq_144_iff_framePos hdisp, hpos]
    omega

/-! ### STAT (R34, R263, R264) -/

/-- STAT[1:0] reads the mode (R34). -/
theorem readStat_mode (p : Ppu) : (readStat p).extractLsb' 0 2 = p.mode.code := by
  apply BitVec.eq_of_getLsbD_eq
  intro i hi
  rw [BitVec.getLsbD_extractLsb', readStat, BitVec.getLsbD_append]
  simp [hi]

/-- STAT[2] reads whether LY is LYC (R34). -/
theorem readStat_coincidence (p : Ppu) : (readStat p).getLsbD 2 = decide (p.ly = p.lyc) := by
  rw [readStat, BitVec.getLsbD_append, BitVec.getLsbD_append]
  simp [beq_eq_decide]

/-- Settles O52: bit 1 of what a tick raises; a write to LYC is routed to that register alone. -/
theorem statRequests : Obligations.StatRequests := by
  unfold Obligations.StatRequests
  refine ⟨fun s h => ?raised, fun m s => ⟨setMode_ppu m s, ?mode⟩, fun s v => ?lyc,
    fun s => readStat_coincidence s.ppu, fun s => ppuTick_irq_of_off⟩
  case raised => simpa using ppuTick_getLsbD h 1
  case mode => rw [readStat_mode, setMode_ppu]
  case lyc => rw [memWrite_of_reg (r := .lyc) rfl]; rfl

/-! ## The display's switch (R267, R268) -/

theorem ppuTicks_succ (n : Nat) (s : State) : ppuTicks (n + 1) s = ppuTick (ppuTicks n s) := by
  induction n generalizing s with
  | zero => rfl
  | succ n ih => exact ih (ppuTick s)

/-- `s` with the display off for `n` dots (R267, R268). -/
def displayOff (n : Nat) (s : State) : State :=
  { s with
    ppu.lcdRunning := false, ppu.ly := 0, ppu.dot := 0, ppu.mode := .hblank, ppu.windowLine := 0
    ppu.framebuffer := blankFramebuffer
    ppu.offDots := n % dotsPerFrame, ppu.frameEvent := s.ppu.frameEvent + n / dotsPerFrame }

/-- The first dot off stops the PPU and counts. -/
theorem ppuTick_stops {s : State} (hl : s.ppu.lcdc.getLsbD 7 = false) (hr : s.ppu.lcdRunning = true) :
    ppuTick s = displayOff 1 s := by
  rw [ppuTick_off hl, tickOff, if_pos hr]
  rfl

/-- Each further dot off counts, and every 70224th is a blank frame boundary. -/
theorem ppuTick_displayOff {s : State} (hl : s.ppu.lcdc.getLsbD 7 = false) (n : Nat) :
    ppuTick (displayOff n s) = displayOff (n + 1) s := by
  have hoff : ppuTick (displayOff n s) = tickOff (displayOff n s) := ppuTick_off hl
  have hstopped : ¬ (displayOff n s).ppu.lcdRunning = true := Bool.false_ne_true
  rw [hoff, tickOff, if_neg hstopped]
  unfold displayOff dotsPerFrame
  dsimp only
  by_cases hwrap : n % 70224 + 1 = 70224
  · have hrest : (n + 1) % 70224 = 0 := by omega
    have hcount : (n + 1) / 70224 = n / 70224 + 1 := by omega
    rw [if_pos hwrap, hrest, hcount, Nat.add_assoc]
  · have hrest : (n + 1) % 70224 = n % 70224 + 1 := by omega
    have hcount : (n + 1) / 70224 = n / 70224 := by omega
    rw [if_neg hwrap, hrest, hcount]

theorem ppuTicks_displayOff {s : State} (hl : s.ppu.lcdc.getLsbD 7 = false) (hr : s.ppu.lcdRunning = true) (n : Nat) :
    ppuTicks (n + 1) s = displayOff (n + 1) s := by
  induction n with
  | zero => exact ppuTick_stops hl hr
  | succ n ih => rw [ppuTicks_succ, ih, ppuTick_displayOff hl]

/-- The start of the display raises STAT when mode 2 has its enable bit set (R263, R267). -/
theorem lcdStart_eq (s : State) :
    let started := { s with ppu.lcdRunning := true, ppu.ly := 0, ppu.dot := 0, ppu.offDots := 0, ppu.mode := .oamScan }
    lcdStart s = if s.ppu.statEn.getLsbD 2 then request 1 started else started := rfl

/-- The dot that starts the display is dot 1 of line 0: neither a mode nor a line ends there. -/
theorem ppuTick_of_stopped {s : State} (hl : s.ppu.lcdc.getLsbD 7 = true) (hr : s.ppu.lcdRunning = false) :
    ppuTick s = { lcdStart s with ppu.dot := 1 } := by
  have hppu := lcdStart_ppu s
  simp [ppuTick, lcdcBit, hl, tickOn, hr, midLine, endLine, hppu]

/-- Settles O53: the dots off by induction on their number; the dot that starts the display by `lcdStart`. -/
theorem displayOffAndOn : Obligations.DisplayOffAndOn := by
  unfold Obligations.DisplayOffAndOn
  refine ⟨fun n s hl hr => ppuTicks_displayOff hl hr n, fun s hl hr => ?starts⟩
  rw [ppuTick_of_stopped hl hr, lcdStart_eq]
  split <;> rfl

end Sys2Proof.Machine

namespace Sys2Proof.Machine

/-! ## When a line is rendered (R262, R270, R271, R281) -/

/-! ### The renderer does not look at the count of dots -/

/-- `s` at dot `n` of its line. -/
def atDot (n : Nat) (s : State) : State := { s with ppu.dot := n }

@[simp] theorem lcdcBit_atDot (i n : Nat) (s : State) : lcdcBit i (atDot n s) = lcdcBit i s := rfl

@[simp] theorem spriteHeight_atDot (n : Nat) (s : State) : spriteHeight (atDot n s) = spriteHeight s := rfl

@[simp] theorem byteAt_atDot (a : Word) (n : Nat) (s : State) : byteAt a (atDot n s) = byteAt a s := by
  unfold byteAt
  cases route a with
  | storage k => rfl
  | reg r => cases r <;> rfl
  | ext who => rfl

@[simp] theorem renderRead_atDot (a : Word) (n : Nat) (s : State) : renderRead a (atDot n s) = renderRead a s := by
  unfold renderRead memRead
  rw [byteAt_atDot]
  cases byteAt a s <;> rfl

@[simp] theorem tilePixel_atDot (t : Byte) (c r : Nat) (unsignedMode : Bool) (n : Nat) (s : State) :
    tilePixel t c r unsignedMode (atDot n s) = tilePixel t c r unsignedMode s := by
  simp [tilePixel]

@[simp] theorem planeIndex_atDot (high : Bool) (x y n : Nat) (s : State) :
    planeIndex high x y (atDot n s) = planeIndex high x y s := by
  simp [planeIndex]

@[simp] theorem selectedSprites_atDot (line : Byte) (n : Nat) (s : State) :
    selectedSprites line (atDot n s) = selectedSprites line s := by
  simp [selectedSprites, oamEntry]

@[simp] theorem spriteIndex_atDot (sp : Sprite) (line : Byte) (x n : Nat) (s : State) :
    spriteIndex sp line x (atDot n s) = spriteIndex sp line x s := by
  simp [spriteIndex]

@[simp] theorem bgIndex_atDot (line : Byte) (x n : Nat) (s : State) :
    bgIndex line x (atDot n s) = bgIndex line x s :=
  planeIndex_atDot (lcdcBit 3 s) ((x + s.ppu.scx.toNat) % 256) ((line.toNat + s.ppu.scy.toNat) % 256) n s

@[simp] theorem windowIndex_atDot (x n : Nat) (s : State) : windowIndex x (atDot n s) = windowIndex x s :=
  planeIndex_atDot (lcdcBit 6 s) (x + 7 - s.ppu.wx.toNat) s.ppu.windowLine.toNat n s

@[simp] theorem windowActive_atDot (line : Byte) (n : Nat) (s : State) :
    windowActive line (atDot n s) = windowActive line s := rfl

@[simp] theorem underIndex_atDot (line : Byte) (x n : Nat) (s : State) :
    underIndex line x (atDot n s) = underIndex line x s := by
  have hwx : (atDot n s).ppu.wx = s.ppu.wx := rfl
  simp [underIndex, hwx]

@[simp] theorem overlay_atDot (line : Byte) (x : Nat) (bg under : BitVec 2) (n : Nat) (s : State) (l : List Sprite) :
    overlay line x bg under (atDot n s) l = overlay line x bg under s l := by
  induction l with
  | nil => rfl
  | cons sp rest ih =>
    have hpalette : spritePalette sp (atDot n s) = spritePalette sp s := rfl
    rw [overlay, overlay, ih, spriteIndex_atDot, hpalette]

/-- The count of dots takes no part in a line's shades (R271). -/
theorem lineShades_atDot (line : Byte) (n : Nat) (s : State) : lineShades line (atDot n s) = lineShades line s := by
  have hunder : ∀ x, underShade line x (atDot n s) = underShade line x s := fun x => by
    rw [underShade, underIndex_atDot]
    rfl
  have hpriority : (atDot n s).env.cfg.objPriority = s.env.cfg.objPriority := rfl
  simp [lineShades, pixel, hunder, hpriority]

/-! ### The tick that renders -/

/-- The tick that ends mode 3 of a visible line renders it from the state before. -/
theorem ppuTick_renders {s : State} (h : Forms.Displaying s) (hd : s.ppu.dot = 251) (hv : s.ppu.ly.toNat < 144) :
    (ppuTick s).ppu.framebuffer = s.ppu.framebuffer.set s.ppu.ly.toNat (lineShades s.ppu.ly s) ∧
      (ppuTick s).ppu.windowLine =
        if windowActive s.ppu.ly s then s.ppu.windowLine + 1 else s.ppu.windowLine := by
  obtain ⟨hl, hr, -, -⟩ := h
  rw [ppuTick_render hl hr hv hd, setMode_ppu]
  exact ⟨congrArg _ (lineShades_atDot s.ppu.ly 252 s), rfl⟩

/-- Every other tick keeps the framebuffer; of these only the frame boundary resets the window line counter. -/
theorem ppuTick_renders_not {s : State} (h : Forms.Displaying s) (hmid : ¬(s.ppu.dot = 251 ∧ s.ppu.ly.toNat < 144)) :
    (ppuTick s).ppu.framebuffer = s.ppu.framebuffer ∧
      (ppuTick s).ppu.windowLine = if s.ppu.dot = 455 ∧ s.ppu.ly = 153 then 0 else s.ppu.windowLine := by
  have ⟨hl, hr, _, _⟩ := h
  by_cases hend : s.ppu.dot = 455
  · rw [ppuTick_lineEnd_ppu hl hr hend]
    simp [hend]
  · have hinside : ¬(s.ppu.dot = 455 ∧ s.ppu.ly = 153) := fun hlast => hend hlast.1
    rw [if_neg hinside]
    exact (ppuTick_quiet h hmid hend).2

/-- Pixel `x` of a line is `pixel` at column `x`, over the line's sprites in the order of the run (R280). -/
theorem getElem?_lineShades (line : Byte) (s : State) {x : Nat} (hx : x < 160) :
    (lineShades line s)[x]? =
      some (pixel line (priorityOrder s.env.cfg.objPriority (selectedSprites line s)) s x) := by
  simp [lineShades, hx]

/-- Settles O54: the tick at dot 251 of a visible line renders, no other does. -/
theorem renderPoint : Obligations.RenderPoint := by
  unfold Obligations.RenderPoint
  intro s h
  refine ⟨?tick, lineShades_length s.ppu.ly s, fun x hx => getElem?_lineShades s.ppu.ly s hx⟩
  dsimp only
  by_cases hmid : s.ppu.dot = 251 ∧ s.ppu.ly.toNat < 144
  · rw [if_pos hmid]
    exact ppuTick_renders h hmid.1 hmid.2
  · rw [if_neg hmid]
    exact ppuTick_renders_not h hmid

/-! ## The renderer's reads (R68, R282) -/

theorem renderRead_of_storage {a : Word} {k : Nat} (h : route a = .storage k) (s : State) :
    renderRead a s = Memory.read s.bus.mem k := by
  rw [renderRead, memRead_of_byteAt (byteAt_of_storage h s)]

/-- A VRAM address is read at its own number. -/
theorem renderRead_of_vram {a : Word} {n : Nat} (ha : a.toNat = n) (hlow : 0x8000 ≤ n) (hhigh : n ≤ 0x9FFF)
    (s : State) :
    renderRead a s = Memory.read s.bus.mem n := by
  subst ha
  exact renderRead_of_storage ((addressMap a).2.1 hlow hhigh) s

/-- An OAM address is read at its own number. -/
theorem renderRead_of_oam {a : Word} {n : Nat} (ha : a.toNat = n) (hlow : 0xFE00 ≤ n) (hhigh : n ≤ 0xFE9F)
    (s : State) :
    renderRead a s = Memory.read s.bus.mem n := by
  subst ha
  obtain ⟨-, -, -, -, -, hoam, -⟩ := addressMap a
  exact renderRead_of_storage (hoam hlow hhigh) s

/-! ## Tiles, background and window (R272 to R274) -/

/-- A tile's sixteen bytes lie in 0x8000 to 0x97FF in both modes (R272). -/
theorem tileBase_bounds (t : Byte) (unsignedMode : Bool) :
    0x8000 ≤ Forms.tileBase t unsignedMode ∧ Forms.tileBase t unsignedMode + 16 ≤ 0x9800 := by
  have ht := t.isLt
  unfold Forms.tileBase
  split
  · omega
  · split <;> omega

theorem toNat_tileAddr (t : Byte) (unsignedMode : Bool) :
    (tileAddr t unsignedMode).toNat = Forms.tileBase t unsignedMode := by
  revert t unsignedMode
  decide

theorem toNat_tileAddr_add (t : Byte) (unsignedMode : Bool) {k : Nat} (hk : k < 16) :
    (tileAddr t unsignedMode + BitVec.ofNat 16 k).toNat = Forms.tileBase t unsignedMode + k := by
  have hbase := toNat_tileAddr t unsignedMode
  have hbounds := tileBase_bounds t unsignedMode
  rw [BitVec.toNat_add, BitVec.toNat_ofNat, hbase]
  omega

theorem tilePixel_eq_tileColour (t : Byte) (c : Nat) {r : Nat} (hr : r < 8) (unsignedMode : Bool) (s : State) :
    tilePixel t c r unsignedMode s = Forms.tileColour t c r unsignedMode s := by
  have hbounds := tileBase_bounds t unsignedMode
  have hlo : (tileAddr t unsignedMode + BitVec.ofNat 16 (2 * r)).toNat = Forms.tileBase t unsignedMode + 2 * r :=
    toNat_tileAddr_add t unsignedMode (by omega)
  have hhi : (tileAddr t unsignedMode + BitVec.ofNat 16 (2 * r) + 1).toNat =
      Forms.tileBase t unsignedMode + 2 * r + 1 := by
    rw [BitVec.add_assoc, show (1 : Word) = BitVec.ofNat 16 1 from rfl, ← BitVec.ofNat_add]
    exact toNat_tileAddr_add t unsignedMode (by omega)
  unfold tilePixel Forms.tileColour
  dsimp only
  rw [renderRead_of_vram hlo (by omega) (by omega), renderRead_of_vram hhi (by omega) (by omega)]

theorem toNat_mapAddr (high : Bool) {x y : Nat} (hx : x < 256) (hy : y < 256) :
    (mapAddr high x y).toNat = (if high then 0x9C00 else 0x9800) + 32 * (y / 8) + x / 8 := by
  have hbase : (if high then 0x9C00 else 0x9800 : Word).toNat = if high then 0x9C00 else 0x9800 := by
    cases high <;> rfl
  rw [mapAddr, BitVec.toNat_add, BitVec.toNat_ofNat, hbase]
  split <;> omega

theorem planeIndex_eq_tileColour (high : Bool) {x y : Nat} (hx : x < 256) (hy : y < 256) (s : State) :
    planeIndex high x y s =
      Forms.tileColour (Forms.mapTile high x y s) (x % 8) (y % 8) (Forms.lcdc 4 s) s := by
  have hmap := toNat_mapAddr high hx hy
  have hread : renderRead (mapAddr high x y) s = Forms.mapTile high x y s := by
    rw [renderRead_of_vram hmap (by split <;> omega) (by split <;> omega)]
    rfl
  rw [planeIndex, hread]
  exact tilePixel_eq_tileColour _ _ (by omega) _ _

/-- Settles O55: a tile's and a map's addresses lie in VRAM, where the renderer reads what is stored. -/
theorem planePixels : Obligations.PlanePixels := by
  unfold Obligations.PlanePixels
  intro s line t x c r unsignedMode hx _ hr
  have hbounds := tileBase_bounds t unsignedMode
  have hwindowLine := s.ppu.windowLine.isLt
  dsimp only
  refine ⟨⟨tilePixel_eq_tileColour t c hr unsignedMode s, by omega, by omega⟩, ?background, rfl, fun hwx => ?window⟩
  case background => exact planeIndex_eq_tileColour _ (by omega) (by omega) s
  case window => exact planeIndex_eq_tileColour _ (by omega) hwindowLine s

/-! ## The sprites of a line (R275, R282) -/

/-- Byte `k` of OAM entry `i` (R282). -/
theorem renderRead_oam {i k : Nat} (hi : i < 40) (hk : k < 4) (s : State) :
    renderRead (BitVec.ofNat 16 (0xFE00 + 4 * i) + BitVec.ofNat 16 k) s = Forms.oamByte i k s := by
  have haddr : (BitVec.ofNat 16 (0xFE00 + 4 * i) + BitVec.ofNat 16 k).toNat = 0xFE00 + 4 * i + k := by
    rw [← BitVec.ofNat_add, BitVec.toNat_ofNat]
    omega
  exact renderRead_of_oam haddr (by omega) (by omega) s

theorem oamEntry_eq {i : Nat} (hi : i < 40) (s : State) :
    oamEntry i s =
      { y := Forms.oamByte i 0 s, x := Forms.oamByte i 1 s, tile := Forms.oamByte i 2 s,
        attr := Forms.oamByte i 3 s } := by
  have hy := renderRead_oam hi (k := 0) (by decide) s
  rw [show BitVec.ofNat 16 0 = (0#16 : Word) from rfl, BitVec.add_zero] at hy
  rw [← hy, ← renderRead_oam hi (k := 1) (by decide), ← renderRead_oam hi (k := 2) (by decide),
    ← renderRead_oam hi (k := 3) (by decide)]
  rfl

/-- Settles O56: the selected sprites are the first ten of the filtered table, whose entries are the stored bytes. -/
theorem spriteSelection : Obligations.SpriteSelection := by
  unfold Obligations.SpriteSelection
  intro s line
  dsimp only
  cases hon : Forms.lcdc 1 s with
  | false =>
    have hnone : selectedSprites line s = [] := if_neg (ne_true_of_eq_false hon)
    simp [hnone]
  | true =>
    have hsel : selectedSprites line s =
        (((List.range 40).map fun i => oamEntry i s).filter (onLine (spriteHeight s) line)).take 10 := if_pos hon
    refine ⟨nofun, fun _ => ?_, ?_, fun sp hsp => ?_⟩
    · rw [hsel]
      exact congrArg (fun table => (table.filter (onLine (spriteHeight s) line)).take 10)
        (List.map_congr_left fun i hi => oamEntry_eq (List.mem_range.mp hi) s)
    · rw [hsel]
      exact List.length_take_le 10 _
    · rw [hsel] at hsp
      exact (List.mem_filter.mp (List.mem_of_mem_take hsp)).2

/-! ## A sprite's pixel (R276) -/

theorem covers_iff (sp : Sprite) (x : Nat) :
    covers sp x = true ↔ sp.x.toNat ≤ x + 8 ∧ x + 8 - sp.x.toNat < 8 := by
  unfold covers
  rw [Bool.and_eq_true, decide_eq_true_iff, decide_eq_true_iff]
  omega

/-- Settles O57: with height 8 the row is below 8 and its residue modulo 8 is the row itself. -/
theorem spritePixels : Obligations.SpritePixels := by
  unfold Obligations.SpritePixels
  intro s sp line x
  refine ⟨covers_iff sp x, fun _ htop hbottom => ?_⟩
  have hheight : spriteHeight s = if Forms.lcdc 2 s then 16 else 8 := rfl
  rw [spriteIndex, hheight]
  cases htall : Forms.lcdc 2 s with
  | true => exact tilePixel_eq_tileColour _ _ (Nat.mod_lt _ (by decide)) _ _
  | false =>
    rw [htall] at hbottom
    have hrow0 : line.toNat + 16 - sp.y.toNat < 8 := by
      simp only [Bool.false_eq_true, if_false] at hbottom
      omega
    have hrow : (if sp.attr.getLsbD 6 then 8 - 1 - (line.toNat + 16 - sp.y.toNat)
        else line.toNat + 16 - sp.y.toNat) < 8 := by split <;> omega
    simp only [Bool.false_eq_true, if_false, Nat.reduceEqDiff]
    rw [Nat.mod_eq_of_lt hrow]
    exact tilePixel_eq_tileColour _ _ hrow _ _

/-! ## The order of overlapping sprites (R278) -/

/-- The order by X, which sprites of equal X leave open. -/
abbrev Sprite.leX (p q : Sprite) : Prop := p.x.toNat ≤ q.x.toNat

theorem insertByX_eq_orderedInsert (sp : Sprite) (l : List Sprite) :
    insertByX sp l = l.orderedInsert Sprite.leX sp := by
  induction l with
  | nil => rfl
  | cons q qs ih => rw [insertByX, List.orderedInsert_cons, ih]

/-- Ascending X is the library's insertion sort. -/
theorem priorityOrder_dmgX (l : List Sprite) : priorityOrder .dmgX l = l.insertionSort Sprite.leX := by
  have hinsert : insertByX = List.orderedInsert Sprite.leX :=
    funext fun sp => funext fun qs => insertByX_eq_orderedInsert sp qs
  rw [priorityOrder, hinsert]
  rfl

theorem pairwise_priorityOrder_dmgX (l : List Sprite) : (priorityOrder .dmgX l).Pairwise Sprite.leX := by
  rw [priorityOrder_dmgX]
  have htotal : Std.Total Sprite.leX := ⟨fun p q => Nat.le_total p.x.toNat q.x.toNat⟩
  have htrans : IsTrans Sprite Sprite.leX := ⟨fun p q r => Nat.le_trans (m := q.x.toNat)⟩
  exact List.pairwise_insertionSort Sprite.leX l

theorem priorityOrder_dmgX_perm (l : List Sprite) : (priorityOrder .dmgX l).Perm l := by
  rw [priorityOrder_dmgX]
  exact List.perm_insertionSort Sprite.leX l

/-- The sort is stable: the sprites of one X are a sorted part of the table, and stay one of the same length. -/
theorem filter_priorityOrder_dmgX (l : List Sprite) (x : Byte) :
    (priorityOrder .dmgX l).filter (fun p => p.x == x) = l.filter (fun p => p.x == x) := by
  have hperm := priorityOrder_dmgX_perm l
  have hsorted : (l.filter fun p => p.x == x).Pairwise Sprite.leX := by
    refine List.pairwise_of_forall_mem_list fun p hp q hq => ?_
    have hpx : p.x = x := by simpa using (List.mem_filter.mp hp).2
    have hqx : q.x = x := by simpa using (List.mem_filter.mp hq).2
    exact Nat.le_of_eq (by rw [hpx, hqx])
  have hsub : (l.filter fun p => p.x == x).Sublist (priorityOrder .dmgX l) := by
    rw [priorityOrder_dmgX]
    exact List.sublist_insertionSort hsorted List.filter_sublist
  have hpart : (l.filter fun p => p.x == x).Sublist ((priorityOrder .dmgX l).filter fun p => p.x == x) := by
    simpa using hsub.filter fun p => p.x == x
  exact (hpart.eq_of_length (hperm.filter _).length_eq.symm).symm

/-- Settles O58: ascending X is an insertion sort of the table. -/
theorem spriteOrder : Obligations.SpriteOrder := by
  unfold Obligations.SpriteOrder
  exact ⟨fun _ => rfl, fun l =>
    ⟨priorityOrder_dmgX_perm l, pairwise_priorityOrder_dmgX l, filter_priorityOrder_dmgX l⟩⟩

/-! ## The composition of a pixel (R277, R279, R280) -/

theorem shade_eq (p : Byte) (ci : BitVec 2) : shade p ci = (p >>> (2 * ci.toNat)).extractLsb' 0 2 := by
  rw [shade, BitVec.setWidth_eq_extractLsb' (by decide)]

/-- A sprite that does not cover the column, or is transparent there, is passed over. -/
theorem overlay_append {line : Byte} {x : Nat} {s : State} {before : List Sprite}
    (h : ∀ q ∈ before, covers q x = false ∨ spriteIndex q line x s = 0) (bg under : BitVec 2) (rest : List Sprite) :
    overlay line x bg under s (before ++ rest) = overlay line x bg under s rest := by
  induction before with
  | nil => rfl
  | cons q qs ih =>
    have hrest := ih fun p hp => h p (List.mem_cons_of_mem q hp)
    rw [List.cons_append, overlay]
    obtain huncovered | hclear := h q List.mem_cons_self
    · rw [if_neg (ne_true_of_eq_false huncovered), hrest]
    · dsimp only
      rw [if_pos hclear, hrest, ite_self]

/-- The candidate decides the pixel: it shows, or it yields to the index below. -/
theorem overlay_candidate {line : Byte} {x : Nat} {s : State} {sp : Sprite} (hcovers : covers sp x = true)
    (hindex : spriteIndex sp line x s ≠ 0) (bg under : BitVec 2) (after : List Sprite) :
    overlay line x bg under s (sp :: after) =
      if sp.attr.getLsbD 7 = true ∧ bg ≠ 0 then under
      else shade (spritePalette sp s) (spriteIndex sp line x s) := by
  rw [overlay, if_pos hcovers]
  exact if_neg hindex

/-- Settles O59: what lies below by LCDC[0]; over it the sprites up to the candidate are passed over, and the candidate
decides. -/
theorem pixelComposition : Obligations.PixelComposition := by
  unfold Obligations.PixelComposition
  intro s line x
  refine ⟨fun hoff => ?off, fun hon => ?on, fun sel hclear => ?clear,
    fun before after sp hclear hcovers hindex => ?candidate⟩
  case off => exact ⟨if_neg (ne_true_of_eq_false hoff), if_neg (ne_true_of_eq_false hoff)⟩
  case on => exact ⟨if_pos hon, (if_pos hon).trans (shade_eq _ _)⟩
  case clear =>
    rw [pixel, ← List.append_nil sel, overlay_append hclear]
    rfl
  case candidate => rw [pixel, overlay_append hclear, overlay_candidate hcovers hindex, shade_eq, spritePalette]

end Sys2Proof.Machine

namespace Sys2Proof.Machine

/-! ## What a step costs (R231, R310, R311) -/

/-- What an instruction can cost, in either profile. -/
def instrCosts : List Nat := [4, 8, 12, 16, 20, 24]

/-! ### The operations whose cost is not one number -/

theorem opPop_cycles_mem (p : StackPair) (s : State) : (opPop p s).cpu.cycles ∈ instrCosts := by
  have hcycles : (opPop p s).cpu.cycles = popCycles s.env.cfg := by simp [opPop]
  rw [hcycles, popCycles]
  split <;> decide

theorem opJpCc_cycles_mem (cc : Cond) (a : Word) (s : State) : (opJpCc cc a s).cpu.cycles ∈ instrCosts := by
  unfold opJpCc jpTakenCycles
  split
  · rw [setCycles_cycles]
    split <;> decide
  · rw [setCycles_cycles]
    decide

theorem opJrCc_cycles_mem (cc : Cond) (e : Byte) (s : State) : (opJrCc cc e s).cpu.cycles ∈ instrCosts := by
  unfold opJrCc
  split <;> rw [setCycles_cycles] <;> decide

theorem opCallCc_cycles_mem (cc : Cond) (a : Word) (s : State) : (opCallCc cc a s).cpu.cycles ∈ instrCosts := by
  unfold opCallCc
  split <;> rw [setCycles_cycles] <;> decide

theorem opRetCc_cycles_mem (cc : Cond) (s : State) : (opRetCc cc s).cpu.cycles ∈ instrCosts := by
  unfold opRetCc
  split <;> rw [setCycles_cycles] <;> decide

theorem opHalt_cycles (s : State) : (opHalt s).cpu.cycles = 4 := by
  unfold opHalt
  split <;> rfl

theorem cbCycles_mem (x : Place8) : cbCycles x ∈ instrCosts := by
  cases x <;> simp [cbCycles, instrCosts]

theorem bitCycles_mem (x : Place8) : bitCycles x ∈ instrCosts := by
  cases x <;> simp [bitCycles, instrCosts]

theorem opCbPage_cycles_mem (cb : Byte) (s : State) : (opCbPage cb s).cpu.cycles ∈ instrCosts := by
  unfold opCbPage
  dsimp only
  split
  case h_1 => exact cbCycles_mem _
  case h_2 => exact bitCycles_mem _
  case h_3 => exact cbCycles_mem _
  case h_4 => exact cbCycles_mem _

/-- An instruction that completes costs 4 to 24 cycles. The conditional ones, POP, HALT and the escape decide their cost
by the state; every other ends with a number that the row fixes. -/
theorem exec_cycles_mem {i : Instr} {s t : State} (h : exec i s = .next t) : t.cpu.cycles ∈ instrCosts := by
  cases i <;> cases h
  case pop_bc | pop_de | pop_hl | pop_af => exact opPop_cycles_mem _ s
  case jp_nz_a16 | jp_z_a16 | jp_nc_a16 | jp_c_a16 => exact opJpCc_cycles_mem _ _ s
  case jr_nz_e8 | jr_z_e8 | jr_nc_e8 | jr_c_e8 => exact opJrCc_cycles_mem _ _ s
  case call_nz_a16 | call_z_a16 | call_nc_a16 | call_c_a16 => exact opCallCc_cycles_mem _ _ s
  case ret_nz | ret_z | ret_nc | ret_c => exact opRetCc_cycles_mem _ s
  case halt => rw [opHalt_cycles]; decide
  case prefix_cb => exact opCbPage_cycles_mem _ s
  all_goals exact List.mem_of_elem_eq_true rfl

/-! ### A step -/

theorem boundary_cycles (s : State) : (boundary s).cpu.cycles = s.cpu.cycles := by
  unfold boundary
  split
  · split <;> rfl
  · rfl

theorem interruptCheck_of_quiet {s : State} (h : s.cpu.ime = false ∨ pendingAndEnabled s = 0) :
    interruptCheck s = s := by
  refine if_neg fun ⟨hime, hsome⟩ => ?_
  obtain hmasked | hnone := h
  · exact ne_true_of_eq_false hmasked hime
  · exact hsome hnone

theorem interruptCheck_of_dispatch {s : State} (hime : s.cpu.ime = true) (hsome : pendingAndEnabled s ≠ 0) :
    interruptCheck s = setCycles (s.cpu.cycles + dispatchCycles) (takeInterrupt s) :=
  if_pos ⟨hime, hsome⟩

/-- The interrupt check charges nothing, or it dispatches: then it charges 20 more and leaves IME clear (R234). -/
theorem interruptCheck_cycles (s : State) :
    (interruptCheck s).cpu.cycles = s.cpu.cycles ∨
      ((interruptCheck s).cpu.cycles = s.cpu.cycles + 20 ∧ (interruptCheck s).cpu.ime = false) := by
  by_cases h : s.cpu.ime = false ∨ pendingAndEnabled s = 0
  · exact .inl (congrArg (fun t : State => t.cpu.cycles) (interruptCheck_of_quiet h))
  · obtain ⟨hime, hsome⟩ := not_or.mp h
    rw [interruptCheck_of_dispatch (eq_true_of_ne_false hime) hsome]
    exact .inr ⟨rfl, by simp [takeInterrupt_cpu]⟩

theorem haltedStep_cycles (s : State) : (haltedStep s).cpu.cycles = 4 ∨ (haltedStep s).cpu.cycles = 20 := by
  by_cases hnone : pendingAndEnabled s = 0
  · rw [haltedStep_of_noRequest hnone]
    exact .inl rfl
  cases hime : s.cpu.ime with
  | false =>
    rw [haltedStep_of_masked hnone hime]
    exact .inl rfl
  | true =>
    rw [haltedStep_of_dispatch hnone hime]
    exact .inr rfl

theorem cpuStep_cycles {s t : State} (h : cpuStep s = .next t) :
    t.cpu.cycles ∈ instrCosts ∨ (∃ n ∈ instrCosts, t.cpu.cycles = n + 20) ∧ t.cpu.ime = false := by
  obtain ⟨-, rfl⟩ | ⟨-, -, rfl⟩ | ⟨-, -, u, hu, rfl⟩ := cpuStep_cases h
  · exact .inl (by rw [setCycles_cycles]; decide)
  · left
    obtain hcost | hcost := haltedStep_cycles s <;> rw [hcost] <;> decide
  · have hran := exec_cycles_mem hu
    rw [← boundary_cycles u] at hran
    obtain hsame | ⟨hmore, hime⟩ := interruptCheck_cycles (boundary u)
    · exact .inl (hsame ▸ hran)
    · exact .inr ⟨⟨_, hran, hmore⟩, hime⟩

/-- Settles O12: the PPU's advance leaves the cycles of the CPU step, which are an instruction's or those of a
suspended CPU, and 20 more with a dispatch. -/
theorem stepCostRange : Obligations.StepCostRange := by
  unfold Obligations.StepCostRange
  intro s t h
  obtain ⟨u, hu, rfl⟩ := systemStep_cases h
  rw [(PpuOnly.ppuAdvance u.cpu.cycles u).cpu]
  obtain hplain | ⟨⟨n, hn, hcost⟩, hime⟩ := cpuStep_cycles hu
  · exact .inl hplain
  · have hrange : ∀ n ∈ instrCosts, n + 20 ∈ [20, 24, 28, 32, 36, 40, 44] := by decide
    exact .inr ⟨hcost ▸ hrange n hn, hime⟩

/-! ## The host's moves (R240, R247, R285) -/

theorem takeMoves_nil {s : State} (h : s.env.moves = []) : takeMoves s = s := by
  simp [takeMoves, h]

theorem takeMoves_cons {s : State} {ms : List HostMove} {later : List (List HostMove)}
    (h : s.env.moves = ms :: later) :
    takeMoves s = ms.foldl (fun t m => hostMove m t) { s with env.moves := later } := by
  simp [takeMoves, h]

/-- The first move of an entry can be made ahead of the step: no move looks at the schedule. -/
theorem takeMoves_first {s : State} {m : HostMove} {ms : List HostMove} {later : List (List HostMove)}
    (h : s.env.moves = (m :: ms) :: later) :
    takeMoves s = takeMoves (hostMove m { s with env.moves := ms :: later }) := by
  have hrest : (hostMove m { s with env.moves := ms :: later }).env.moves = ms :: later := by
    rw [(SameEnvironment.hostMove m _).env]
  rw [takeMoves_cons h, takeMoves_cons hrest, List.foldl_cons]
  cases m <;> rfl

/-- Settles O16: each move as a record; the schedule entry by entry, and an entry move by move. -/
theorem hostMovesBeforeTheStep : Obligations.HostMovesBeforeTheStep := by
  unfold Obligations.HostMovesBeforeTheStep
  refine ⟨fun s => ⟨rfl, rfl, rfl, rfl⟩, fun s m ms later h => ?first, fun s later h => ?empty, fun s h => ?none⟩
  case first => rw [step, takeMoves_first h, step]
  case empty => rw [step, takeMoves_cons h, List.foldl_nil]
  case none => rw [step, takeMoves_nil h]

/-! ## The boundary, the check and the dispatch (R232 to R234, R242, R243) -/

theorem boundary_of_one {s : State} (h : s.cpu.eiDelay = 1) :
    boundary s = { s with cpu.eiDelay := 0, cpu.ime := true } := by
  simp [boundary, h]

theorem boundary_of_two {s : State} (h : s.cpu.eiDelay = 2) : boundary s = { s with cpu.eiDelay := 1 } := by
  simp [boundary, h]

theorem boundary_of_zero {s : State} (h : s.cpu.eiDelay = 0) : boundary s = s := by
  simp [boundary, h]

/-- The source served is the lowest-numbered bit that is set (R243). -/
theorem lowestSet_eq {p : BitVec 5} {k : Nat} (hk : k < 5) (hset : p.getLsbD k = true)
    (hlower : ∀ j < k, p.getLsbD j = false) : lowestSet p = k := by
  revert p
  interval_cases k <;> decide

theorem pendingAndEnabled_getLsbD (s : State) {j : Nat} (hj : j < 5) :
    (pendingAndEnabled s).getLsbD j = (s.irq.ie.getLsbD j && s.irq.ifr.getLsbD j) := by
  rw [pendingAndEnabled, BitVec.getLsbD_and, BitVec.getLsbD_extractLsb', Nat.zero_add]
  simp [hj]

/-- Settles O46: the boundary by the delay, the check by its two conditions, the dispatch by the source it serves. -/
theorem interruptDispatch : Obligations.InterruptDispatch := by
  unfold Obligations.InterruptDispatch
  refine ⟨fun s => ⟨boundary_of_zero, boundary_of_one, boundary_of_two⟩,
    fun s => ⟨rfl, interruptCheck_of_quiet, interruptCheck_of_dispatch⟩, fun s k hk hie hif hlower => ?_⟩
  have hserved : lowestSet (pendingAndEnabled s) = k := by
    refine lowestSet_eq hk ?_ fun j hj => ?_
    · rw [pendingAndEnabled_getLsbD s hk, hie, hif, Bool.and_self]
    · rw [pendingAndEnabled_getLsbD s (by omega), hlower j hj]
  rw [takeInterrupt, hserved]
  rfl

end Sys2Proof.Machine

namespace Sys2Proof.Machine

/-! ## The cycle tables (R310, R311) -/

/-! ### The tables as one cell per opcode -/

/-- The opcodes of POP (R143). -/
def popOpcodes : List Byte := [0xC1, 0xD1, 0xE1, 0xF1]

/-- The opcodes of JP cc (R202). -/
def jpCcOpcodes : List Byte := [0xC2, 0xCA, 0xD2, 0xDA]

/-- The cell of an opcode in the table of R310, (taken, not taken). -/
def baseCell (op : Byte) : Nat × Nat := (Forms.baseCosts.getD (op.toNat / 16) []).getD (op.toNat % 16) (0, 0)

/-- The cell of an opcode and of the byte after it in a profile: that of R311 after 0xCB, else that of R310, where
`doc_literal` changes POP and a taken JP cc. -/
def costCell (p : TimingProfile) (op cb : Byte) : Nat × Nat :=
  if op = 0xCB then (Forms.cbCost cb, Forms.cbCost cb)
  else
    match p with
    | .standard => baseCell op
    | .docLiteral =>
      if op ∈ popOpcodes then (16, 16) else if op ∈ jpCcOpcodes then (24, (baseCell op).2) else baseCell op

/-- The tables' cost of some bytes is one of the two numbers of the opcode's cell, by the opcode's condition. -/
theorem tableCycles_cons (op : Byte) (rest : List Byte) (s : State) :
    Forms.tableCycles (op :: rest) s =
      if condHolds (Forms.condOfOpcode op) s then (costCell s.env.cfg.timing op (rest.headD 0)).1
      else (costCell s.env.cfg.timing op (rest.headD 0)).2 := by
  unfold Forms.tableCycles costCell
  rw [List.headD_cons]
  by_cases hcb : op = 0xCB
  · cases rest <;> simp [hcb]
  rw [if_neg hcb, if_neg hcb]
  cases s.env.cfg.timing with
  | standard => rfl
  | docLiteral =>
    change (if op ∈ popOpcodes then 16 else if op ∈ jpCcOpcodes ∧ _ then 24 else _) = _
    by_cases hpop : op ∈ popOpcodes
    · simp [hpop]
    by_cases hjp : op ∈ jpCcOpcodes
    · cases condHolds (Forms.condOfOpcode op) s <;> simp [hpop, hjp, baseCell]
    · simp [hpop, hjp, baseCell]

theorem tableCycles_of_cell {op : Byte} {rest : List Byte} {s : State} {cc : Cond} {taken notTaken : Nat}
    (hcc : Forms.condOfOpcode op = cc) (hcell : costCell s.env.cfg.timing op (rest.headD 0) = (taken, notTaken)) :
    Forms.tableCycles (op :: rest) s = if condHolds cc s then taken else notTaken := by
  rw [tableCycles_cons, hcc, hcell]

theorem costCell_of_profiles {op cb : Byte} {cell : Nat × Nat} (hstandard : costCell .standard op cb = cell)
    (hliteral : costCell .docLiteral op cb = cell) (p : TimingProfile) : costCell p op cb = cell := by
  cases p with
  | standard => exact hstandard
  | docLiteral => exact hliteral

/-- A cell with two numbers, the same in both profiles. -/
theorem tableCycles_of_conditional {op : Byte} {rest : List Byte} {cc : Cond} {taken notTaken : Nat} (s : State)
    (hcc : Forms.condOfOpcode op = cc) (hstandard : costCell .standard op (rest.headD 0) = (taken, notTaken))
    (hliteral : costCell .docLiteral op (rest.headD 0) = (taken, notTaken)) :
    Forms.tableCycles (op :: rest) s = if condHolds cc s then taken else notTaken :=
  tableCycles_of_cell hcc (costCell_of_profiles hstandard hliteral _)

/-- A cell with one number, the same in both profiles. -/
theorem tableCycles_of_fixed {op : Byte} {rest : List Byte} {n : Nat} (s : State)
    (hstandard : costCell .standard op (rest.headD 0) = (n, n))
    (hliteral : costCell .docLiteral op (rest.headD 0) = (n, n)) : Forms.tableCycles (op :: rest) s = n := by
  rw [tableCycles_of_conditional s rfl hstandard hliteral, ite_self]

theorem tableCycles_pop {op : Byte} (hop : op ∈ popOpcodes) (rest : List Byte) (s : State) :
    Forms.tableCycles (op :: rest) s = popCycles s.env.cfg := by
  have hcell : costCell s.env.cfg.timing op (rest.headD 0) = (popCycles s.env.cfg, popCycles s.env.cfg) := by
    unfold popCycles
    cases s.env.cfg.timing <;> fin_cases hop <;> rfl
  rw [tableCycles_of_cell rfl hcell, ite_self]

theorem tableCycles_jpCc {op : Byte} {cc : Cond} (hop : op ∈ jpCcOpcodes) (hcc : Forms.condOfOpcode op = cc)
    (rest : List Byte) (s : State) :
    Forms.tableCycles (op :: rest) s = if condHolds cc s then jpTakenCycles s.env.cfg else 12 := by
  have hcell : costCell s.env.cfg.timing op (rest.headD 0) = (jpTakenCycles s.env.cfg, 12) := by
    unfold jpTakenCycles
    cases s.env.cfg.timing <;> fin_cases hop <;> rfl
  exact tableCycles_of_cell hcc hcell

/-! ### The operations whose cost depends on the state or on an operand's code -/

theorem opPop_cycles (p : StackPair) (s : State) : (opPop p s).cpu.cycles = popCycles s.env.cfg := by
  simp [opPop]

theorem opJpCc_cycles (cc : Cond) (a : Word) (s : State) :
    (opJpCc cc a s).cpu.cycles = if condHolds cc s then jpTakenCycles s.env.cfg else 12 := by
  rw [opJpCc_eq]

theorem opJrCc_cycles (cc : Cond) (e : Byte) (s : State) :
    (opJrCc cc e s).cpu.cycles = if condHolds cc s then 12 else 8 := by
  rw [opJrCc_eq]

theorem opCallCc_cycles (cc : Cond) (a : Word) (s : State) :
    (opCallCc cc a s).cpu.cycles = if condHolds cc s then 24 else 12 := by
  unfold opCallCc
  split <;> rfl

theorem opRetCc_cycles (cc : Cond) (s : State) :
    (opRetCc cc s).cpu.cycles = if condHolds cc s then 20 else 8 := by
  unfold opRetCc
  split <;> rfl

theorem cbCycles_placeOfCode (z : Nat) : cbCycles (placeOfCode z) = if z = 6 then 16 else 8 := by
  unfold placeOfCode
  split <;> simp_all [cbCycles]

theorem bitCycles_placeOfCode (z : Nat) : bitCycles (placeOfCode z) = if z = 6 then 12 else 8 := by
  unfold placeOfCode
  split <;> simp_all [bitCycles]

/-- The escape costs what the table of R311 gives the CB byte: 12 for BIT and 16 for the others at (HL), 8 for a
register. -/
theorem opCbPage_cycles (cb : Byte) (s : State) : (opCbPage cb s).cpu.cycles = Forms.cbCost cb := by
  have hwrites (hx : cb.toNat / 64 ≠ 1) : cbCycles (placeOfCode (cb.toNat % 8)) = Forms.cbCost cb := by
    rw [cbCycles_placeOfCode, Forms.cbCost, if_neg hx]
  unfold opCbPage
  dsimp only
  split
  case h_1 hx => exact hwrites (by omega)
  case h_2 hx => exact (bitCycles_placeOfCode _).trans (by rw [Forms.cbCost, if_pos hx])
  case h_3 hx => exact hwrites (by omega)
  case h_4 hx _ => exact hwrites hx

/-! ### Every instruction -/

/-- Settles O11: POP and JP cc by the profile, the conditional ones by the two numbers of their cell, the escape by the
CB byte; every other instruction's cell has the one number that its operation sets. -/
theorem cycleTables : Obligations.CycleTables := by
  unfold Obligations.CycleTables
  intro i s t h
  apply Eq.symm
  cases i <;> cases h
  case pop_bc | pop_de | pop_hl | pop_af =>
    rw [opPop_cycles]
    exact tableCycles_pop (by decide) _ s
  case jp_nz_a16 | jp_z_a16 | jp_nc_a16 | jp_c_a16 =>
    rw [opJpCc_cycles]
    exact tableCycles_jpCc (by decide) rfl _ s
  case jr_nz_e8 | jr_z_e8 | jr_nc_e8 | jr_c_e8 =>
    rw [opJrCc_cycles]
    exact tableCycles_of_conditional s rfl rfl rfl
  case call_nz_a16 | call_z_a16 | call_nc_a16 | call_c_a16 =>
    rw [opCallCc_cycles]
    exact tableCycles_of_conditional s rfl rfl rfl
  case ret_nz | ret_z | ret_nc | ret_c =>
    rw [opRetCc_cycles]
    exact tableCycles_of_conditional s rfl rfl rfl
  case halt =>
    rw [opHalt_cycles]
    exact tableCycles_of_fixed s rfl rfl
  case prefix_cb =>
    rw [opCbPage_cycles]
    exact tableCycles_of_fixed s rfl rfl
  all_goals exact tableCycles_of_fixed s rfl rfl

end Sys2Proof.Machine
